-- ==== Sys2Proof/Word.lean ====
section
/-! DEFINITION. The two widths of the hardware: "all registers are still just 8 bits wide" (R20 to R25)
and the 16-bit program counter and address (R26, R52). -/

namespace Sys2Proof

/-- A byte: a register, a flag byte, a memory cell (R20 to R25, R52). -/
abbrev Byte := BitVec 8

/-- A 16-bit word: the program counter, an address, a memory word (R26, R52, R54). -/
abbrev Word := BitVec 16

end Sys2Proof
end

