-- ==== Sys2Proof/Config.lean ====
section
/-! DEFINITION. What the spec leaves to the model: the named parameters of R7, and the free values that the
spec writes `any` (R9). -/

namespace Sys2Proof

/-- `REL16_BASE` of R7: 2 or 3. -/
inductive Rel16Base where
  | two
  | three
  deriving DecidableEq, Repr

/-- `INW_OPERAND` and `DEW_OPERAND` of R7: `abs` or `bp`. -/
inductive WordForm where
  | abs
  | bp
  deriving DecidableEq, Repr

/-- `TRB_TSB_FLAG_MODEL` of R7: `source` or `wdc65c02`. -/
inductive BitFlagModel where
  | source
  | wdc65c02
  deriving DecidableEq, Repr

/-- The parameters of R7, "a model takes them as configuration arguments". The eighth,
`UNKNOWN_OP_POLICY`, has the single value `refuse` and needs no field. Log entry 1. -/
structure Config where
  /-- `REL16_BASE` (R126) -/
  rel16Base : Rel16Base
  /-- `INW_OPERAND` (R96, R212) -/
  inwOperand : WordForm
  /-- `DEW_OPERAND` (R96, R213) -/
  dewOperand : WordForm
  /-- `BIT_IMM_WRITES_NV` (R202) -/
  bitImmWritesNV : Bool
  /-- `TRB_TSB_FLAG_MODEL` (R240, R241) -/
  trbTsbFlags : BitFlagModel
  /-- `TRAP_CLEARS_D` (R277, R318, R320) -/
  trapClearsD : Bool
  /-- `STOP_ADDRESS` (R366) -/
  stopAddress : Option Word
  deriving DecidableEq, Repr

/-- The default column of R7. Log entry 1. -/
def Config.default : Config where
  rel16Base := .three
  inwOperand := .abs
  dewOperand := .bp
  bitImmWritesNV := false
  trbTsbFlags := .source
  trapClearsD := true
  stopAddress := none

/-- The `any` of R9 for a byte: the byte drawn at the `k`-th draw of a run. It has no body, so a claim
about it holds for every value. Log entry 6. -/
opaque Config.freeByte : Nat → Byte

/-- The `any` of R9 for a flag: the bit drawn at the `k`-th draw of a run. Log entry 6. -/
opaque Config.freeBit : Nat → Bool

end Sys2Proof
end

