-- ==== Sys2Proof/Machine/Bytes.lean ====
section
/-! DEFINITION. Byte order and sign extension: the helpers `hi:lo` and `sext_16` of R8 and R9. -/

namespace Sys2Proof.Machine

/-- Bits 7 to 0 of a word, its low-order byte (R8, R53). -/
def loByte (w : Word) : Byte := w.extractLsb' 0 8

/-- Bits 15 to 8 of a word, its high-order byte (R8, R53). -/
def hiByte (w : Word) : Byte := w.extractLsb' 8 8

/-- `hi:lo`, the value `(hi << 8) | lo` of R8. -/
def joinBytes (hi lo : Byte) : Word := (hi.setWidth 16 <<< 8) ||| lo.setWidth 16

/-- `sext_16` of R9: the two's-complement extension of 8 bits to 16. -/
def sext16 (v : Byte) : Word := v.signExtend 16

/-- A byte read as an unsigned 16-bit value (`zext_16` of R9). -/
def zext16 (v : Byte) : Word := v.setWidth 16

/-- The two bytes of a word as they follow each other in memory: low byte first (R53, R84, R86). -/
def leBytes (w : Word) : List Byte := [loByte w, hiByte w]

end Sys2Proof.Machine
end

