-- ==== Sys2Proof/Syntax.lean ====
section
/-! DEFINITION. The instructions: one constructor for each of the 256 rows of opcode_table.json, named by its
mnemonic and its addressing mode (R89, R92), with its operand fields (R83 to R86). Imm is `imm8`, Imm16 is
`imm16`; Bp, Bpx, Bpy, Abs, Absx, Absy, Indx, Indy, Indz, Indsp, Acc, Rel8, Rel16, AbsInd, AbsxInd are the
modes of those names (R110). -/

namespace Sys2Proof

/-- The operand of INW and DEW, whose form is a parameter (R96). -/
inductive WordOperand where
  | abs (nnnn : Word)
  | bp (nn : Byte)
  deriving DecidableEq, Repr

/-- The instructions. Fields: `nn` an operand byte (R83), `nnnn` an operand word (R84), `dd` an 8-bit
displacement (R85), `dddd` a 16-bit displacement (R86). -/
inductive Instr where
  -- Load and store instructions (41_load_store.md)
  | ldaIndx (nn : Byte) -- A1 LDA ($nn,X) (R140)
  | ldaBp (nn : Byte) -- A5 LDA $nn (R140)
  | ldaImm (nn : Byte) -- A9 LDA #$nn (R140)
  | ldaAbs (nnnn : Word) -- AD LDA $nnnn (R140)
  | ldaIndy (nn : Byte) -- B1 LDA ($nn),Y (R140)
  | ldaIndz (nn : Byte) -- B2 LDA ($nn),Z (R140)
  | ldaBpx (nn : Byte) -- B5 LDA $nn,X (R140)
  | ldaAbsy (nnnn : Word) -- B9 LDA $nnnn,Y (R140)
  | ldaAbsx (nnnn : Word) -- BD LDA $nnnn,X (R140)
  | ldaIndsp (nn : Byte) -- E2 LDA ($nn,SP),Y (R140)
  | ldxImm (nn : Byte) -- A2 LDX #$nn (R141)
  | ldxBp (nn : Byte) -- A6 LDX $nn (R141)
  | ldxAbs (nnnn : Word) -- AE LDX $nnnn (R141)
  | ldxBpy (nn : Byte) -- B6 LDX $nn,Y (R141)
  | ldxAbsy (nnnn : Word) -- BE LDX $nnnn,Y (R141)
  | ldyImm (nn : Byte) -- A0 LDY #$nn (R142)
  | ldyBp (nn : Byte) -- A4 LDY $nn (R142)
  | ldyAbs (nnnn : Word) -- AC LDY $nnnn (R142)
  | ldyBpx (nn : Byte) -- B4 LDY $nn,X (R142)
  | ldyAbsx (nnnn : Word) -- BC LDY $nnnn,X (R142)
  | ldzImm (nn : Byte) -- A3 LDZ #$nn (R143)
  | ldzAbs (nnnn : Word) -- AB LDZ $nnnn (R143)
  | ldzAbsx (nnnn : Word) -- BB LDZ $nnnn,X (R143)
  | staIndx (nn : Byte) -- 81 STA ($nn,X) (R144)
  | staIndsp (nn : Byte) -- 82 STA ($nn,SP),Y (R144)
  | staBp (nn : Byte) -- 85 STA $nn (R144)
  | staAbs (nnnn : Word) -- 8D STA $nnnn (R144)
  | staIndy (nn : Byte) -- 91 STA ($nn),Y (R144)
  | staIndz (nn : Byte) -- 92 STA ($nn),Z (R144)
  | staBpx (nn : Byte) -- 95 STA $nn,X (R144)
  | staAbsy (nnnn : Word) -- 99 STA $nnnn,Y (R144)
  | staAbsx (nnnn : Word) -- 9D STA $nnnn,X (R144)
  | stxBp (nn : Byte) -- 86 STX $nn (R145)
  | stxAbs (nnnn : Word) -- 8E STX $nnnn (R145)
  | stxBpy (nn : Byte) -- 96 STX $nn,Y (R145)
  | stxAbsy (nnnn : Word) -- 9B STX $nnnn,Y (R145)
  | styBp (nn : Byte) -- 84 STY $nn (R146)
  | styAbsx (nnnn : Word) -- 8B STY $nnnn,X (R146)
  | styAbs (nnnn : Word) -- 8C STY $nnnn (R146)
  | styBpx (nn : Byte) -- 94 STY $nn,X (R146)
  | stzBp (nn : Byte) -- 64 STZ $nn (R147)
  | stzBpx (nn : Byte) -- 74 STZ $nn,X (R147)
  | stzAbs (nnnn : Word) -- 9C STZ $nnnn (R147)
  | stzAbsx (nnnn : Word) -- 9E STZ $nnnn,X (R147)
  -- Register transfer and stack instructions (42_transfer_stack.md)
  | tax -- AA TAX (R160)
  | tay -- A8 TAY (R161)
  | taz -- 4B TAZ (R162)
  | tab -- 5B TAB (R163)
  | tba -- 7B TBA (R164)
  | txa -- 8A TXA (R165)
  | tya -- 98 TYA (R166)
  | tza -- 6B TZA (R167)
  | tsx -- BA TSX (R168)
  | txs -- 9A TXS (R169)
  | tsy -- 0B TSY (R170)
  | tys -- 2B TYS (R171)
  | pha -- 48 PHA (R172)
  | php -- 08 PHP (R173)
  | phx -- DA PHX (R174)
  | phy -- 5A PHY (R175)
  | phz -- DB PHZ (R176)
  | phwImm16 (nnnn : Word) -- F4 PHW #$nnnn (R177)
  | phwAbs (nnnn : Word) -- FC PHW $nnnn (R177)
  | pla -- 68 PLA (R178)
  | plp -- 28 PLP (R179)
  | plx -- FA PLX (R180)
  | ply -- 7A PLY (R181)
  | plz -- FB PLZ (R182)
  -- Arithmetic, logic, compare, increment and decrement (43_arith_logic.md)
  | adcIndx (nn : Byte) -- 61 ADC ($nn,X) (R190)
  | adcBp (nn : Byte) -- 65 ADC $nn (R190)
  | adcImm (nn : Byte) -- 69 ADC #$nn (R190)
  | adcAbs (nnnn : Word) -- 6D ADC $nnnn (R190)
  | adcIndy (nn : Byte) -- 71 ADC ($nn),Y (R190)
  | adcIndz (nn : Byte) -- 72 ADC ($nn),Z (R190)
  | adcBpx (nn : Byte) -- 75 ADC $nn,X (R190)
  | adcAbsy (nnnn : Word) -- 79 ADC $nnnn,Y (R190)
  | adcAbsx (nnnn : Word) -- 7D ADC $nnnn,X (R190)
  | sbcIndx (nn : Byte) -- E1 SBC ($nn,X) (R193)
  | sbcBp (nn : Byte) -- E5 SBC $nn (R193)
  | sbcImm (nn : Byte) -- E9 SBC #$nn (R193)
  | sbcAbs (nnnn : Word) -- ED SBC $nnnn (R193)
  | sbcIndy (nn : Byte) -- F1 SBC ($nn),Y (R193)
  | sbcIndz (nn : Byte) -- F2 SBC ($nn),Z (R193)
  | sbcBpx (nn : Byte) -- F5 SBC $nn,X (R193)
  | sbcAbsy (nnnn : Word) -- F9 SBC $nnnn,Y (R193)
  | sbcAbsx (nnnn : Word) -- FD SBC $nnnn,X (R193)
  | andIndx (nn : Byte) -- 21 AND ($nn,X) (R195)
  | andBp (nn : Byte) -- 25 AND $nn (R195)
  | andImm (nn : Byte) -- 29 AND #$nn (R195)
  | andAbs (nnnn : Word) -- 2D AND $nnnn (R195)
  | andIndy (nn : Byte) -- 31 AND ($nn),Y (R195)
  | andIndz (nn : Byte) -- 32 AND ($nn),Z (R195)
  | andBpx (nn : Byte) -- 35 AND $nn,X (R195)
  | andAbsy (nnnn : Word) -- 39 AND $nnnn,Y (R195)
  | andAbsx (nnnn : Word) -- 3D AND $nnnn,X (R195)
  | oraIndx (nn : Byte) -- 01 ORA ($nn,X) (R196)
  | oraBp (nn : Byte) -- 05 ORA $nn (R196)
  | oraImm (nn : Byte) -- 09 ORA #$nn (R196)
  | oraAbs (nnnn : Word) -- 0D ORA $nnnn (R196)
  | oraIndy (nn : Byte) -- 11 ORA ($nn),Y (R196)
  | oraIndz (nn : Byte) -- 12 ORA ($nn),Z (R196)
  | oraBpx (nn : Byte) -- 15 ORA $nn,X (R196)
  | oraAbsy (nnnn : Word) -- 19 ORA $nnnn,Y (R196)
  | oraAbsx (nnnn : Word) -- 1D ORA $nnnn,X (R196)
  | eorIndx (nn : Byte) -- 41 EOR ($nn,X) (R197)
  | eorBp (nn : Byte) -- 45 EOR $nn (R197)
  | eorImm (nn : Byte) -- 49 EOR #$nn (R197)
  | eorAbs (nnnn : Word) -- 4D EOR $nnnn (R197)
  | eorIndy (nn : Byte) -- 51 EOR ($nn),Y (R197)
  | eorIndz (nn : Byte) -- 52 EOR ($nn),Z (R197)
  | eorBpx (nn : Byte) -- 55 EOR $nn,X (R197)
  | eorAbsy (nnnn : Word) -- 59 EOR $nnnn,Y (R197)
  | eorAbsx (nnnn : Word) -- 5D EOR $nnnn,X (R197)
  | cmpIndx (nn : Byte) -- C1 CMP ($nn,X) (R198)
  | cmpBp (nn : Byte) -- C5 CMP $nn (R198)
  | cmpImm (nn : Byte) -- C9 CMP #$nn (R198)
  | cmpAbs (nnnn : Word) -- CD CMP $nnnn (R198)
  | cmpIndy (nn : Byte) -- D1 CMP ($nn),Y (R198)
  | cmpIndz (nn : Byte) -- D2 CMP ($nn),Z (R198)
  | cmpBpx (nn : Byte) -- D5 CMP $nn,X (R198)
  | cmpAbsy (nnnn : Word) -- D9 CMP $nnnn,Y (R198)
  | cmpAbsx (nnnn : Word) -- DD CMP $nnnn,X (R198)
  | cpxImm (nn : Byte) -- E0 CPX #$nn (R199)
  | cpxBp (nn : Byte) -- E4 CPX $nn (R199)
  | cpxAbs (nnnn : Word) -- EC CPX $nnnn (R199)
  | cpyImm (nn : Byte) -- C0 CPY #$nn (R200)
  | cpyBp (nn : Byte) -- C4 CPY $nn (R200)
  | cpyAbs (nnnn : Word) -- CC CPY $nnnn (R200)
  | cpzImm (nn : Byte) -- C2 CPZ #$nn (R201)
  | cpzBp (nn : Byte) -- D4 CPZ $nn (R201)
  | cpzAbs (nnnn : Word) -- DC CPZ $nnnn (R201)
  | bitBp (nn : Byte) -- 24 BIT $nn (R202)
  | bitAbs (nnnn : Word) -- 2C BIT $nnnn (R202)
  | bitBpx (nn : Byte) -- 34 BIT $nn,X (R202)
  | bitAbsx (nnnn : Word) -- 3C BIT $nnnn,X (R202)
  | bitImm (nn : Byte) -- 89 BIT #$nn (R202)
  | neg -- 42 NEG (R203)
  | incAcc -- 1A INC (R204)
  | incBp (nn : Byte) -- E6 INC $nn (R204)
  | incAbs (nnnn : Word) -- EE INC $nnnn (R204)
  | incBpx (nn : Byte) -- F6 INC $nn,X (R204)
  | incAbsx (nnnn : Word) -- FE INC $nnnn,X (R204)
  | decAcc -- 3A DEC (R205)
  | decBp (nn : Byte) -- C6 DEC $nn (R205)
  | decAbs (nnnn : Word) -- CE DEC $nnnn (R205)
  | decBpx (nn : Byte) -- D6 DEC $nn,X (R205)
  | decAbsx (nnnn : Word) -- DE DEC $nnnn,X (R205)
  | inx -- E8 INX (R206)
  | iny -- C8 INY (R207)
  | inz -- 1B INZ (R208)
  | dex -- CA DEX (R209)
  | dey -- 88 DEY (R210)
  | dez -- 3B DEZ (R211)
  | inw (op : WordOperand) -- E3 INW $nnnn (R212)
  | dew (op : WordOperand) -- C3 DEW $nn (R213)
  -- Shifts and rotates (44_shift_rotate.md)
  | aslBp (nn : Byte) -- 06 ASL $nn (R221)
  | aslAcc -- 0A ASL A (R221)
  | aslAbs (nnnn : Word) -- 0E ASL $nnnn (R221)
  | aslBpx (nn : Byte) -- 16 ASL $nn,X (R221)
  | aslAbsx (nnnn : Word) -- 1E ASL $nnnn,X (R221)
  | lsrBp (nn : Byte) -- 46 LSR $nn (R222)
  | lsrAcc -- 4A LSR A (R222)
  | lsrAbs (nnnn : Word) -- 4E LSR $nnnn (R222)
  | lsrBpx (nn : Byte) -- 56 LSR $nn,X (R222)
  | lsrAbsx (nnnn : Word) -- 5E LSR $nnnn,X (R222)
  | rolBp (nn : Byte) -- 26 ROL $nn (R223)
  | rolAcc -- 2A ROL A (R223)
  | rolAbs (nnnn : Word) -- 2E ROL $nnnn (R223)
  | rolBpx (nn : Byte) -- 36 ROL $nn,X (R223)
  | rolAbsx (nnnn : Word) -- 3E ROL $nnnn,X (R223)
  | rorBp (nn : Byte) -- 66 ROR $nn (R224)
  | rorAcc -- 6A ROR A (R224)
  | rorAbs (nnnn : Word) -- 6E ROR $nnnn (R224)
  | rorBpx (nn : Byte) -- 76 ROR $nn,X (R224)
  | rorAbsx (nnnn : Word) -- 7E ROR $nnnn,X (R224)
  | asrAcc -- 43 ASR A (R225)
  | asrBp (nn : Byte) -- 44 ASR $nn (R225)
  | asrBpx (nn : Byte) -- 54 ASR $nn,X (R225)
  | asw (nnnn : Word) -- CB ASW $nnnn (R226)
  | row (nnnn : Word) -- EB ROW $nnnn (R227)
  -- Bit operations (45_bit_ops.md)
  | trbBp (nn : Byte) -- 14 TRB $nn (R240)
  | trbAbs (nnnn : Word) -- 1C TRB $nnnn (R240)
  | tsbBp (nn : Byte) -- 04 TSB $nn (R241)
  | tsbAbs (nnnn : Word) -- 0C TSB $nnnn (R241)
  | rmb0 (nn : Byte) -- 07 RMB0 $nn (R242)
  | rmb1 (nn : Byte) -- 17 RMB1 $nn (R242)
  | rmb2 (nn : Byte) -- 27 RMB2 $nn (R242)
  | rmb3 (nn : Byte) -- 37 RMB3 $nn (R242)
  | rmb4 (nn : Byte) -- 47 RMB4 $nn (R242)
  | rmb5 (nn : Byte) -- 57 RMB5 $nn (R242)
  | rmb6 (nn : Byte) -- 67 RMB6 $nn (R242)
  | rmb7 (nn : Byte) -- 77 RMB7 $nn (R242)
  | smb0 (nn : Byte) -- 87 SMB0 $nn (R243)
  | smb1 (nn : Byte) -- 97 SMB1 $nn (R243)
  | smb2 (nn : Byte) -- A7 SMB2 $nn (R243)
  | smb3 (nn : Byte) -- B7 SMB3 $nn (R243)
  | smb4 (nn : Byte) -- C7 SMB4 $nn (R243)
  | smb5 (nn : Byte) -- D7 SMB5 $nn (R243)
  | smb6 (nn : Byte) -- E7 SMB6 $nn (R243)
  | smb7 (nn : Byte) -- F7 SMB7 $nn (R243)
  | bbr0 (nn : Byte) (dd : Byte) -- 0F BBR0 $zp,$nn (R244)
  | bbr1 (nn : Byte) (dd : Byte) -- 1F BBR1 $zp,$nn (R244)
  | bbr2 (nn : Byte) (dd : Byte) -- 2F BBR2 $zp,$nn (R244)
  | bbr3 (nn : Byte) (dd : Byte) -- 3F BBR3 $zp,$nn (R244)
  | bbr4 (nn : Byte) (dd : Byte) -- 4F BBR4 $zp,$nn (R244)
  | bbr5 (nn : Byte) (dd : Byte) -- 5F BBR5 $zp,$nn (R244)
  | bbr6 (nn : Byte) (dd : Byte) -- 6F BBR6 $zp,$nn (R244)
  | bbr7 (nn : Byte) (dd : Byte) -- 7F BBR7 $zp,$nn (R244)
  | bbs0 (nn : Byte) (dd : Byte) -- 8F BBS0 $nn,$nn (R245)
  | bbs1 (nn : Byte) (dd : Byte) -- 9F BBS1 $nn,$nn (R245)
  | bbs2 (nn : Byte) (dd : Byte) -- AF BBS2 $nn,$nn (R245)
  | bbs3 (nn : Byte) (dd : Byte) -- BF BBS3 $nn,$nn (R245)
  | bbs4 (nn : Byte) (dd : Byte) -- CF BBS4 $nn,$nn (R245)
  | bbs5 (nn : Byte) (dd : Byte) -- DF BBS5 $nn,$nn (R245)
  | bbs6 (nn : Byte) (dd : Byte) -- EF BBS6 $nn,$nn (R245)
  | bbs7 (nn : Byte) (dd : Byte) -- FF BBS7 $nn,$nn (R245)
  -- Control transfer (46_control_flow.md)
  | bccRel8 (dd : Byte) -- 90 BCC $nn (R261)
  | bccRel16 (dddd : Word) -- 93 BCC $nnnn (R261)
  | bcsRel8 (dd : Byte) -- B0 BCS $nn (R262)
  | bcsRel16 (dddd : Word) -- B3 BCS $nnnn (R262)
  | beqRel8 (dd : Byte) -- F0 BEQ $nn (R263)
  | beqRel16 (dddd : Word) -- F3 BEQ $nnnn (R263)
  | bmiRel8 (dd : Byte) -- 30 BMI $nn (R264)
  | bmiRel16 (dddd : Word) -- 33 BMI $nnnn (R264)
  | bneRel8 (dd : Byte) -- D0 BNE $nn (R265)
  | bneRel16 (dddd : Word) -- D3 BNE $nnnn (R265)
  | bplRel8 (dd : Byte) -- 10 BPL $nn (R266)
  | bplRel16 (dddd : Word) -- 13 BPL $nnnn (R266)
  | bvcRel8 (dd : Byte) -- 50 BVC $nn (R267)
  | bvcRel16 (dddd : Word) -- 53 BVC $nnnn (R267)
  | bvsRel8 (dd : Byte) -- 70 BVS $nn (R268)
  | bvsRel16 (dddd : Word) -- 73 BVS $nnnn (R268)
  | braRel8 (dd : Byte) -- 80 BRA $nn (R269)
  | braRel16 (dddd : Word) -- 83 BRA $nnnn (R269)
  | bsr (dddd : Word) -- 63 BSR $nnnn (R270)
  | jmpAbs (nnnn : Word) -- 4C JMP $nnnn (R271)
  | jmpAbsInd (nnnn : Word) -- 6C JMP ($nnnn) (R271)
  | jmpAbsxInd (nnnn : Word) -- 7C JMP ($nnnn,X) (R271)
  | jsrAbs (nnnn : Word) -- 20 JSR $nnnn (R272)
  | jsrAbsInd (nnnn : Word) -- 22 JSR ($nnnn) (R272)
  | jsrAbsxInd (nnnn : Word) -- 23 JSR ($nnnn,X) (R272)
  | rts -- 60 RTS (R273)
  | rtsImm (nn : Byte) -- 62 RTS #$nn (R275)
  | rti -- 40 RTI (R276)
  | brk -- 00 BRK (R277)
  -- Flag and system instructions (47_flags_system.md)
  | clc -- 18 CLC (R290)
  | sec -- 38 SEC (R291)
  | cld -- D8 CLD (R292)
  | sed -- F8 SED (R293)
  | cli -- 58 CLI (R294)
  | sei -- 78 SEI (R296)
  | clv -- B8 CLV (R297)
  | nop -- EA NOP (R299)
  | cle -- 02 CLE (R295)
  | see -- 03 SEE (R298)
  | map -- 5C MAP (R300)
  deriving DecidableEq, Repr

end Sys2Proof
end

