-- ==== Sys2Proof/WellFormed.lean ====
section
/-! DEFINITION. Which instructions a configuration has. Every operand value of every instruction is legal
(R83, R90); the one check is that INW and DEW carry the operand form their parameter selects (R96). -/

namespace Sys2Proof

/-- A word operand has the form of the parameter (R96). -/
def WordOperand.hasForm : WordOperand → WordForm → Bool
  | .abs _, .abs => true
  | .bp _, .bp => true
  | .abs _, .bp => false
  | .bp _, .abs => false

/-- The instruction exists under the configuration (R90, R96, R131). -/
def Instr.wellFormed (cfg : Config) : Instr → Bool
  | .inw op => op.hasForm cfg.inwOperand
  | .dew op => op.hasForm cfg.dewOperand
  | _ => true

end Sys2Proof
end

