-- ==== Sys2Proof/Decode.lean ====
section
/-! DEFINITION. The decoder and the encoder, both written from the opcode map of R89 and the formats of R81. -/

namespace Sys2Proof

open Sys2Proof.Machine

/-- The operand of INW or DEW in the form the configuration selects (R96): two bytes, low first, for `abs`;
one for `bp`. -/
def wordOperand (form : WordForm) (b1 b2 : Byte) : WordOperand :=
  match form with
  | .abs => .abs (joinBytes b2 b1)
  | .bp => .bp b1

/-! The sixteen rows of the map of R89: row = high hex digit of the opcode, column = low digit. `b1` and `b2`
are the bytes after the opcode; a word operand is assembled low byte first (R84, R86). -/

/-- Row 0x of R89. -/
def decodeRow0 (lo : BitVec 4) (b1 b2 : Byte) : Instr :=
  match lo with
  | 0x0#4 => .brk
  | 0x1#4 => .oraIndx b1
  | 0x2#4 => .cle
  | 0x3#4 => .see
  | 0x4#4 => .tsbBp b1
  | 0x5#4 => .oraBp b1
  | 0x6#4 => .aslBp b1
  | 0x7#4 => .rmb0 b1
  | 0x8#4 => .php
  | 0x9#4 => .oraImm b1
  | 0xA#4 => .aslAcc
  | 0xB#4 => .tsy
  | 0xC#4 => .tsbAbs (joinBytes b2 b1)
  | 0xD#4 => .oraAbs (joinBytes b2 b1)
  | 0xE#4 => .aslAbs (joinBytes b2 b1)
  | _ => .bbr0 b1 b2

/-- Row 1x of R89. -/
def decodeRow1 (lo : BitVec 4) (b1 b2 : Byte) : Instr :=
  match lo with
  | 0x0#4 => .bplRel8 b1
  | 0x1#4 => .oraIndy b1
  | 0x2#4 => .oraIndz b1
  | 0x3#4 => .bplRel16 (joinBytes b2 b1)
  | 0x4#4 => .trbBp b1
  | 0x5#4 => .oraBpx b1
  | 0x6#4 => .aslBpx b1
  | 0x7#4 => .rmb1 b1
  | 0x8#4 => .clc
  | 0x9#4 => .oraAbsy (joinBytes b2 b1)
  | 0xA#4 => .incAcc
  | 0xB#4 => .inz
  | 0xC#4 => .trbAbs (joinBytes b2 b1)
  | 0xD#4 => .oraAbsx (joinBytes b2 b1)
  | 0xE#4 => .aslAbsx (joinBytes b2 b1)
  | _ => .bbr1 b1 b2

/-- Row 2x of R89. -/
def decodeRow2 (lo : BitVec 4) (b1 b2 : Byte) : Instr :=
  match lo with
  | 0x0#4 => .jsrAbs (joinBytes b2 b1)
  | 0x1#4 => .andIndx b1
  | 0x2#4 => .jsrAbsInd (joinBytes b2 b1)
  | 0x3#4 => .jsrAbsxInd (joinBytes b2 b1)
  | 0x4#4 => .bitBp b1
  | 0x5#4 => .andBp b1
  | 0x6#4 => .rolBp b1
  | 0x7#4 => .rmb2 b1
  | 0x8#4 => .plp
  | 0x9#4 => .andImm b1
  | 0xA#4 => .rolAcc
  | 0xB#4 => .tys
  | 0xC#4 => .bitAbs (joinBytes b2 b1)
  | 0xD#4 => .andAbs (joinBytes b2 b1)
  | 0xE#4 => .rolAbs (joinBytes b2 b1)
  | _ => .bbr2 b1 b2

/-- Row 3x of R89. -/
def decodeRow3 (lo : BitVec 4) (b1 b2 : Byte) : Instr :=
  match lo with
  | 0x0#4 => .bmiRel8 b1
  | 0x1#4 => .andIndy b1
  | 0x2#4 => .andIndz b1
  | 0x3#4 => .bmiRel16 (joinBytes b2 b1)
  | 0x4#4 => .bitBpx b1
  | 0x5#4 => .andBpx b1
  | 0x6#4 => .rolBpx b1
  | 0x7#4 => .rmb3 b1
  | 0x8#4 => .sec
  | 0x9#4 => .andAbsy (joinBytes b2 b1)
  | 0xA#4 => .decAcc
  | 0xB#4 => .dez
  | 0xC#4 => .bitAbsx (joinBytes b2 b1)
  | 0xD#4 => .andAbsx (joinBytes b2 b1)
  | 0xE#4 => .rolAbsx (joinBytes b2 b1)
  | _ => .bbr3 b1 b2

/-- Row 4x of R89. -/
def decodeRow4 (lo : BitVec 4) (b1 b2 : Byte) : Instr :=
  match lo with
  | 0x0#4 => .rti
  | 0x1#4 => .eorIndx b1
  | 0x2#4 => .neg
  | 0x3#4 => .asrAcc
  | 0x4#4 => .asrBp b1
  | 0x5#4 => .eorBp b1
  | 0x6#4 => .lsrBp b1
  | 0x7#4 => .rmb4 b1
  | 0x8#4 => .pha
  | 0x9#4 => .eorImm b1
  | 0xA#4 => .lsrAcc
  | 0xB#4 => .taz
  | 0xC#4 => .jmpAbs (joinBytes b2 b1)
  | 0xD#4 => .eorAbs (joinBytes b2 b1)
  | 0xE#4 => .lsrAbs (joinBytes b2 b1)
  | _ => .bbr4 b1 b2

/-- Row 5x of R89. -/
def decodeRow5 (lo : BitVec 4) (b1 b2 : Byte) : Instr :=
  match lo with
  | 0x0#4 => .bvcRel8 b1
  | 0x1#4 => .eorIndy b1
  | 0x2#4 => .eorIndz b1
  | 0x3#4 => .bvcRel16 (joinBytes b2 b1)
  | 0x4#4 => .asrBpx b1
  | 0x5#4 => .eorBpx b1
  | 0x6#4 => .lsrBpx b1
  | 0x7#4 => .rmb5 b1
  | 0x8#4 => .cli
  | 0x9#4 => .eorAbsy (joinBytes b2 b1)
  | 0xA#4 => .phy
  | 0xB#4 => .tab
  | 0xC#4 => .map
  | 0xD#4 => .eorAbsx (joinBytes b2 b1)
  | 0xE#4 => .lsrAbsx (joinBytes b2 b1)
  | _ => .bbr5 b1 b2

/-- Row 6x of R89. -/
def decodeRow6 (lo : BitVec 4) (b1 b2 : Byte) : Instr :=
  match lo with
  | 0x0#4 => .rts
  | 0x1#4 => .adcIndx b1
  | 0x2#4 => .rtsImm b1
  | 0x3#4 => .bsr (joinBytes b2 b1)
  | 0x4#4 => .stzBp b1
  | 0x5#4 => .adcBp b1
  | 0x6#4 => .rorBp b1
  | 0x7#4 => .rmb6 b1
  | 0x8#4 => .pla
  | 0x9#4 => .adcImm b1
  | 0xA#4 => .rorAcc
  | 0xB#4 => .tza
  | 0xC#4 => .jmpAbsInd (joinBytes b2 b1)
  | 0xD#4 => .adcAbs (joinBytes b2 b1)
  | 0xE#4 => .rorAbs (joinBytes b2 b1)
  | _ => .bbr6 b1 b2

/-- Row 7x of R89. -/
def decodeRow7 (lo : BitVec 4) (b1 b2 : Byte) : Instr :=
  match lo with
  | 0x0#4 => .bvsRel8 b1
  | 0x1#4 => .adcIndy b1
  | 0x2#4 => .adcIndz b1
  | 0x3#4 => .bvsRel16 (joinBytes b2 b1)
  | 0x4#4 => .stzBpx b1
  | 0x5#4 => .adcBpx b1
  | 0x6#4 => .rorBpx b1
  | 0x7#4 => .rmb7 b1
  | 0x8#4 => .sei
  | 0x9#4 => .adcAbsy (joinBytes b2 b1)
  | 0xA#4 => .ply
  | 0xB#4 => .tba
  | 0xC#4 => .jmpAbsxInd (joinBytes b2 b1)
  | 0xD#4 => .adcAbsx (joinBytes b2 b1)
  | 0xE#4 => .rorAbsx (joinBytes b2 b1)
  | _ => .bbr7 b1 b2

/-- Row 8x of R89. -/
def decodeRow8 (lo : BitVec 4) (b1 b2 : Byte) : Instr :=
  match lo with
  | 0x0#4 => .braRel8 b1
  | 0x1#4 => .staIndx b1
  | 0x2#4 => .staIndsp b1
  | 0x3#4 => .braRel16 (joinBytes b2 b1)
  | 0x4#4 => .styBp b1
  | 0x5#4 => .staBp b1
  | 0x6#4 => .stxBp b1
  | 0x7#4 => .smb0 b1
  | 0x8#4 => .dey
  | 0x9#4 => .bitImm b1
  | 0xA#4 => .txa
  | 0xB#4 => .styAbsx (joinBytes b2 b1)
  | 0xC#4 => .styAbs (joinBytes b2 b1)
  | 0xD#4 => .staAbs (joinBytes b2 b1)
  | 0xE#4 => .stxAbs (joinBytes b2 b1)
  | _ => .bbs0 b1 b2

/-- Row 9x of R89. -/
def decodeRow9 (lo : BitVec 4) (b1 b2 : Byte) : Instr :=
  match lo with
  | 0x0#4 => .bccRel8 b1
  | 0x1#4 => .staIndy b1
  | 0x2#4 => .staIndz b1
  | 0x3#4 => .bccRel16 (joinBytes b2 b1)
  | 0x4#4 => .styBpx b1
  | 0x5#4 => .staBpx b1
  | 0x6#4 => .stxBpy b1
  | 0x7#4 => .smb1 b1
  | 0x8#4 => .tya
  | 0x9#4 => .staAbsy (joinBytes b2 b1)
  | 0xA#4 => .txs
  | 0xB#4 => .stxAbsy (joinBytes b2 b1)
  | 0xC#4 => .stzAbs (joinBytes b2 b1)
  | 0xD#4 => .staAbsx (joinBytes b2 b1)
  | 0xE#4 => .stzAbsx (joinBytes b2 b1)
  | _ => .bbs1 b1 b2

/-- Row Ax of R89. -/
def decodeRowA (lo : BitVec 4) (b1 b2 : Byte) : Instr :=
  match lo with
  | 0x0#4 => .ldyImm b1
  | 0x1#4 => .ldaIndx b1
  | 0x2#4 => .ldxImm b1
  | 0x3#4 => .ldzImm b1
  | 0x4#4 => .ldyBp b1
  | 0x5#4 => .ldaBp b1
  | 0x6#4 => .ldxBp b1
  | 0x7#4 => .smb2 b1
  | 0x8#4 => .tay
  | 0x9#4 => .ldaImm b1
  | 0xA#4 => .tax
  | 0xB#4 => .ldzAbs (joinBytes b2 b1)
  | 0xC#4 => .ldyAbs (joinBytes b2 b1)
  | 0xD#4 => .ldaAbs (joinBytes b2 b1)
  | 0xE#4 => .ldxAbs (joinBytes b2 b1)
  | _ => .bbs2 b1 b2

/-- Row Bx of R89. -/
def decodeRowB (lo : BitVec 4) (b1 b2 : Byte) : Instr :=
  match lo with
  | 0x0#4 => .bcsRel8 b1
  | 0x1#4 => .ldaIndy b1
  | 0x2#4 => .ldaIndz b1
  | 0x3#4 => .bcsRel16 (joinBytes b2 b1)
  | 0x4#4 => .ldyBpx b1
  | 0x5#4 => .ldaBpx b1
  | 0x6#4 => .ldxBpy b1
  | 0x7#4 => .smb3 b1
  | 0x8#4 => .clv
  | 0x9#4 => .ldaAbsy (joinBytes b2 b1)
  | 0xA#4 => .tsx
  | 0xB#4 => .ldzAbsx (joinBytes b2 b1)
  | 0xC#4 => .ldyAbsx (joinBytes b2 b1)
  | 0xD#4 => .ldaAbsx (joinBytes b2 b1)
  | 0xE#4 => .ldxAbsy (joinBytes b2 b1)
  | _ => .bbs3 b1 b2

/-- Row Cx of R89. -/
def decodeRowC (cfg : Config) (lo : BitVec 4) (b1 b2 : Byte) : Instr :=
  match lo with
  | 0x0#4 => .cpyImm b1
  | 0x1#4 => .cmpIndx b1
  | 0x2#4 => .cpzImm b1
  | 0x3#4 => .dew (wordOperand cfg.dewOperand b1 b2)
  | 0x4#4 => .cpyBp b1
  | 0x5#4 => .cmpBp b1
  | 0x6#4 => .decBp b1
  | 0x7#4 => .smb4 b1
  | 0x8#4 => .iny
  | 0x9#4 => .cmpImm b1
  | 0xA#4 => .dex
  | 0xB#4 => .asw (joinBytes b2 b1)
  | 0xC#4 => .cpyAbs (joinBytes b2 b1)
  | 0xD#4 => .cmpAbs (joinBytes b2 b1)
  | 0xE#4 => .decAbs (joinBytes b2 b1)
  | _ => .bbs4 b1 b2

/-- Row Dx of R89. -/
def decodeRowD (lo : BitVec 4) (b1 b2 : Byte) : Instr :=
  match lo with
  | 0x0#4 => .bneRel8 b1
  | 0x1#4 => .cmpIndy b1
  | 0x2#4 => .cmpIndz b1
  | 0x3#4 => .bneRel16 (joinBytes b2 b1)
  | 0x4#4 => .cpzBp b1
  | 0x5#4 => .cmpBpx b1
  | 0x6#4 => .decBpx b1
  | 0x7#4 => .smb5 b1
  | 0x8#4 => .cld
  | 0x9#4 => .cmpAbsy (joinBytes b2 b1)
  | 0xA#4 => .phx
  | 0xB#4 => .phz
  | 0xC#4 => .cpzAbs (joinBytes b2 b1)
  | 0xD#4 => .cmpAbsx (joinBytes b2 b1)
  | 0xE#4 => .decAbsx (joinBytes b2 b1)
  | _ => .bbs5 b1 b2

/-- Row Ex of R89. -/
def decodeRowE (cfg : Config) (lo : BitVec 4) (b1 b2 : Byte) : Instr :=
  match lo with
  | 0x0#4 => .cpxImm b1
  | 0x1#4 => .sbcIndx b1
  | 0x2#4 => .ldaIndsp b1
  | 0x3#4 => .inw (wordOperand cfg.inwOperand b1 b2)
  | 0x4#4 => .cpxBp b1
  | 0x5#4 => .sbcBp b1
  | 0x6#4 => .incBp b1
  | 0x7#4 => .smb6 b1
  | 0x8#4 => .inx
  | 0x9#4 => .sbcImm b1
  | 0xA#4 => .nop
  | 0xB#4 => .row (joinBytes b2 b1)
  | 0xC#4 => .cpxAbs (joinBytes b2 b1)
  | 0xD#4 => .sbcAbs (joinBytes b2 b1)
  | 0xE#4 => .incAbs (joinBytes b2 b1)
  | _ => .bbs6 b1 b2

/-- Row Fx of R89. -/
def decodeRowF (lo : BitVec 4) (b1 b2 : Byte) : Instr :=
  match lo with
  | 0x0#4 => .beqRel8 b1
  | 0x1#4 => .sbcIndy b1
  | 0x2#4 => .sbcIndz b1
  | 0x3#4 => .beqRel16 (joinBytes b2 b1)
  | 0x4#4 => .phwImm16 (joinBytes b2 b1)
  | 0x5#4 => .sbcBpx b1
  | 0x6#4 => .incBpx b1
  | 0x7#4 => .smb7 b1
  | 0x8#4 => .sed
  | 0x9#4 => .sbcAbsy (joinBytes b2 b1)
  | 0xA#4 => .plx
  | 0xB#4 => .plz
  | 0xC#4 => .phwAbs (joinBytes b2 b1)
  | 0xD#4 => .sbcAbsx (joinBytes b2 b1)
  | 0xE#4 => .incAbsx (joinBytes b2 b1)
  | _ => .bbs7 b1 b2

/-- The instruction of an opcode byte and the two bytes after it: total, since all 256 opcodes are valid and
every operand byte is legal (R80, R90). An instruction shorter than three bytes ignores the rest. -/
def decodeOpcode (cfg : Config) (op b1 b2 : Byte) : Instr :=
  let lo := op.extractLsb' 0 4
  match (op.extractLsb' 4 4 : BitVec 4) with
  | 0x0#4 => decodeRow0 lo b1 b2
  | 0x1#4 => decodeRow1 lo b1 b2
  | 0x2#4 => decodeRow2 lo b1 b2
  | 0x3#4 => decodeRow3 lo b1 b2
  | 0x4#4 => decodeRow4 lo b1 b2
  | 0x5#4 => decodeRow5 lo b1 b2
  | 0x6#4 => decodeRow6 lo b1 b2
  | 0x7#4 => decodeRow7 lo b1 b2
  | 0x8#4 => decodeRow8 lo b1 b2
  | 0x9#4 => decodeRow9 lo b1 b2
  | 0xA#4 => decodeRowA lo b1 b2
  | 0xB#4 => decodeRowB lo b1 b2
  | 0xC#4 => decodeRowC cfg lo b1 b2
  | 0xD#4 => decodeRowD lo b1 b2
  | 0xE#4 => decodeRowE cfg lo b1 b2
  | _ => decodeRowF lo b1 b2

/-- The length of an instruction by its opcode under the default parameters: the map of R89 through the
lengths of R92, one line for each high digit. -/
def lengthTable : List (List Nat) :=
  [[1, 2, 1, 1, 2, 2, 2, 2, 1, 2, 1, 1, 3, 3, 3, 3],
   [2, 2, 2, 3, 2, 2, 2, 2, 1, 3, 1, 1, 3, 3, 3, 3],
   [3, 2, 3, 3, 2, 2, 2, 2, 1, 2, 1, 1, 3, 3, 3, 3],
   [2, 2, 2, 3, 2, 2, 2, 2, 1, 3, 1, 1, 3, 3, 3, 3],
   [1, 2, 1, 1, 2, 2, 2, 2, 1, 2, 1, 1, 3, 3, 3, 3],
   [2, 2, 2, 3, 2, 2, 2, 2, 1, 3, 1, 1, 1, 3, 3, 3],
   [1, 2, 2, 3, 2, 2, 2, 2, 1, 2, 1, 1, 3, 3, 3, 3],
   [2, 2, 2, 3, 2, 2, 2, 2, 1, 3, 1, 1, 3, 3, 3, 3],
   [2, 2, 2, 3, 2, 2, 2, 2, 1, 2, 1, 3, 3, 3, 3, 3],
   [2, 2, 2, 3, 2, 2, 2, 2, 1, 3, 1, 3, 3, 3, 3, 3],
   [2, 2, 2, 2, 2, 2, 2, 2, 1, 2, 1, 3, 3, 3, 3, 3],
   [2, 2, 2, 3, 2, 2, 2, 2, 1, 3, 1, 3, 3, 3, 3, 3],
   [2, 2, 2, 2, 2, 2, 2, 2, 1, 2, 1, 3, 3, 3, 3, 3],
   [2, 2, 2, 3, 2, 2, 2, 2, 1, 3, 1, 1, 3, 3, 3, 3],
   [2, 2, 2, 3, 2, 2, 2, 2, 1, 2, 1, 3, 3, 3, 3, 3],
   [2, 2, 2, 3, 3, 2, 2, 2, 1, 3, 1, 1, 3, 3, 3, 3]]

/-- The length of INW or DEW by its operand form (R96). -/
def formLength : WordForm → Nat
  | .abs => 3
  | .bp => 2

/-- The opcode byte alone determines the length (R80), given the two parameters of R96. -/
def opcodeLength (cfg : Config) (op : Byte) : Nat :=
  if op = 0xE3#8 then formLength cfg.inwOperand
  else if op = 0xC3#8 then formLength cfg.dewOperand
  else (lengthTable.getD (op.extractLsb' 4 4).toNat []).getD (op.extractLsb' 0 4).toNat 0

/-- Why a list of bytes is no instruction. Every opcode and every operand byte is legal (R90): only a list
that ends too early is rejected. Safe, log entry 13. -/
inductive DecodeReject where
  /-- There is no byte at all. -/
  | noOpcode
  /-- The opcode's operand bytes are missing. -/
  | truncated (opcode : Byte)
  deriving DecidableEq, Repr

/-- The decoder: the first instruction of a list of bytes and the bytes after it, or the reason there is none
(R80, R81, R90). -/
def decode (cfg : Config) : List Byte → Except DecodeReject (Instr × List Byte)
  | [] => .error .noOpcode
  | op :: rest =>
    if rest.length + 1 < opcodeLength cfg op then .error (.truncated op)
    else .ok (decodeOpcode cfg op (rest.getD 0 0#8) (rest.getD 1 0#8), rest.drop (opcodeLength cfg op - 1))

/-- The bytes of a word operand of INW or DEW (R84, R83). -/
def encodeWordOperand : WordOperand → List Byte
  | .abs nnnn => leBytes nnnn
  | .bp nn => [nn]

/-- The encoder: the bytes of an instruction, from the same map (R81, R89). -/
def encode : Instr → List Byte
  | .brk => [0x00#8]
  | .oraIndx nn => [0x01#8, nn]
  | .cle => [0x02#8]
  | .see => [0x03#8]
  | .tsbBp nn => [0x04#8, nn]
  | .oraBp nn => [0x05#8, nn]
  | .aslBp nn => [0x06#8, nn]
  | .rmb0 nn => [0x07#8, nn]
  | .php => [0x08#8]
  | .oraImm nn => [0x09#8, nn]
  | .aslAcc => [0x0A#8]
  | .tsy => [0x0B#8]
  | .tsbAbs nnnn => 0x0C#8 :: leBytes nnnn
  | .oraAbs nnnn => 0x0D#8 :: leBytes nnnn
  | .aslAbs nnnn => 0x0E#8 :: leBytes nnnn
  | .bbr0 nn dd => [0x0F#8, nn, dd]
  | .bplRel8 dd => [0x10#8, dd]
  | .oraIndy nn => [0x11#8, nn]
  | .oraIndz nn => [0x12#8, nn]
  | .bplRel16 dddd => 0x13#8 :: leBytes dddd
  | .trbBp nn => [0x14#8, nn]
  | .oraBpx nn => [0x15#8, nn]
  | .aslBpx nn => [0x16#8, nn]
  | .rmb1 nn => [0x17#8, nn]
  | .clc => [0x18#8]
  | .oraAbsy nnnn => 0x19#8 :: leBytes nnnn
  | .incAcc => [0x1A#8]
  | .inz => [0x1B#8]
  | .trbAbs nnnn => 0x1C#8 :: leBytes nnnn
  | .oraAbsx nnnn => 0x1D#8 :: leBytes nnnn
  | .aslAbsx nnnn => 0x1E#8 :: leBytes nnnn
  | .bbr1 nn dd => [0x1F#8, nn, dd]
  | .jsrAbs nnnn => 0x20#8 :: leBytes nnnn
  | .andIndx nn => [0x21#8, nn]
  | .jsrAbsInd nnnn => 0x22#8 :: leBytes nnnn
  | .jsrAbsxInd nnnn => 0x23#8 :: leBytes nnnn
  | .bitBp nn => [0x24#8, nn]
  | .andBp nn => [0x25#8, nn]
  | .rolBp nn => [0x26#8, nn]
  | .rmb2 nn => [0x27#8, nn]
  | .plp => [0x28#8]
  | .andImm nn => [0x29#8, nn]
  | .rolAcc => [0x2A#8]
  | .tys => [0x2B#8]
  | .bitAbs nnnn => 0x2C#8 :: leBytes nnnn
  | .andAbs nnnn => 0x2D#8 :: leBytes nnnn
  | .rolAbs nnnn => 0x2E#8 :: leBytes nnnn
  | .bbr2 nn dd => [0x2F#8, nn, dd]
  | .bmiRel8 dd => [0x30#8, dd]
  | .andIndy nn => [0x31#8, nn]
  | .andIndz nn => [0x32#8, nn]
  | .bmiRel16 dddd => 0x33#8 :: leBytes dddd
  | .bitBpx nn => [0x34#8, nn]
  | .andBpx nn => [0x35#8, nn]
  | .rolBpx nn => [0x36#8, nn]
  | .rmb3 nn => [0x37#8, nn]
  | .sec => [0x38#8]
  | .andAbsy nnnn => 0x39#8 :: leBytes nnnn
  | .decAcc => [0x3A#8]
  | .dez => [0x3B#8]
  | .bitAbsx nnnn => 0x3C#8 :: leBytes nnnn
  | .andAbsx nnnn => 0x3D#8 :: leBytes nnnn
  | .rolAbsx nnnn => 0x3E#8 :: leBytes nnnn
  | .bbr3 nn dd => [0x3F#8, nn, dd]
  | .rti => [0x40#8]
  | .eorIndx nn => [0x41#8, nn]
  | .neg => [0x42#8]
  | .asrAcc => [0x43#8]
  | .asrBp nn => [0x44#8, nn]
  | .eorBp nn => [0x45#8, nn]
  | .lsrBp nn => [0x46#8, nn]
  | .rmb4 nn => [0x47#8, nn]
  | .pha => [0x48#8]
  | .eorImm nn => [0x49#8, nn]
  | .lsrAcc => [0x4A#8]
  | .taz => [0x4B#8]
  | .jmpAbs nnnn => 0x4C#8 :: leBytes nnnn
  | .eorAbs nnnn => 0x4D#8 :: leBytes nnnn
  | .lsrAbs nnnn => 0x4E#8 :: leBytes nnnn
  | .bbr4 nn dd => [0x4F#8, nn, dd]
  | .bvcRel8 dd => [0x50#8, dd]
  | .eorIndy nn => [0x51#8, nn]
  | .eorIndz nn => [0x52#8, nn]
  | .bvcRel16 dddd => 0x53#8 :: leBytes dddd
  | .asrBpx nn => [0x54#8, nn]
  | .eorBpx nn => [0x55#8, nn]
  | .lsrBpx nn => [0x56#8, nn]
  | .rmb5 nn => [0x57#8, nn]
  | .cli => [0x58#8]
  | .eorAbsy nnnn => 0x59#8 :: leBytes nnnn
  | .phy => [0x5A#8]
  | .tab => [0x5B#8]
  | .map => [0x5C#8]
  | .eorAbsx nnnn => 0x5D#8 :: leBytes nnnn
  | .lsrAbsx nnnn => 0x5E#8 :: leBytes nnnn
  | .bbr5 nn dd => [0x5F#8, nn, dd]
  | .rts => [0x60#8]
  | .adcIndx nn => [0x61#8, nn]
  | .rtsImm nn => [0x62#8, nn]
  | .bsr dddd => 0x63#8 :: leBytes dddd
  | .stzBp nn => [0x64#8, nn]
  | .adcBp nn => [0x65#8, nn]
  | .rorBp nn => [0x66#8, nn]
  | .rmb6 nn => [0x67#8, nn]
  | .pla => [0x68#8]
  | .adcImm nn => [0x69#8, nn]
  | .rorAcc => [0x6A#8]
  | .tza => [0x6B#8]
  | .jmpAbsInd nnnn => 0x6C#8 :: leBytes nnnn
  | .adcAbs nnnn => 0x6D#8 :: leBytes nnnn
  | .rorAbs nnnn => 0x6E#8 :: leBytes nnnn
  | .bbr6 nn dd => [0x6F#8, nn, dd]
  | .bvsRel8 dd => [0x70#8, dd]
  | .adcIndy nn => [0x71#8, nn]
  | .adcIndz nn => [0x72#8, nn]
  | .bvsRel16 dddd => 0x73#8 :: leBytes dddd
  | .stzBpx nn => [0x74#8, nn]
  | .adcBpx nn => [0x75#8, nn]
  | .rorBpx nn => [0x76#8, nn]
  | .rmb7 nn => [0x77#8, nn]
  | .sei => [0x78#8]
  | .adcAbsy nnnn => 0x79#8 :: leBytes nnnn
  | .ply => [0x7A#8]
  | .tba => [0x7B#8]
  | .jmpAbsxInd nnnn => 0x7C#8 :: leBytes nnnn
  | .adcAbsx nnnn => 0x7D#8 :: leBytes nnnn
  | .rorAbsx nnnn => 0x7E#8 :: leBytes nnnn
  | .bbr7 nn dd => [0x7F#8, nn, dd]
  | .braRel8 dd => [0x80#8, dd]
  | .staIndx nn => [0x81#8, nn]
  | .staIndsp nn => [0x82#8, nn]
  | .braRel16 dddd => 0x83#8 :: leBytes dddd
  | .styBp nn => [0x84#8, nn]
  | .staBp nn => [0x85#8, nn]
  | .stxBp nn => [0x86#8, nn]
  | .smb0 nn => [0x87#8, nn]
  | .dey => [0x88#8]
  | .bitImm nn => [0x89#8, nn]
  | .txa => [0x8A#8]
  | .styAbsx nnnn => 0x8B#8 :: leBytes nnnn
  | .styAbs nnnn => 0x8C#8 :: leBytes nnnn
  | .staAbs nnnn => 0x8D#8 :: leBytes nnnn
  | .stxAbs nnnn => 0x8E#8 :: leBytes nnnn
  | .bbs0 nn dd => [0x8F#8, nn, dd]
  | .bccRel8 dd => [0x90#8, dd]
  | .staIndy nn => [0x91#8, nn]
  | .staIndz nn => [0x92#8, nn]
  | .bccRel16 dddd => 0x93#8 :: leBytes dddd
  | .styBpx nn => [0x94#8, nn]
  | .staBpx nn => [0x95#8, nn]
  | .stxBpy nn => [0x96#8, nn]
  | .smb1 nn => [0x97#8, nn]
  | .tya => [0x98#8]
  | .staAbsy nnnn => 0x99#8 :: leBytes nnnn
  | .txs => [0x9A#8]
  | .stxAbsy nnnn => 0x9B#8 :: leBytes nnnn
  | .stzAbs nnnn => 0x9C#8 :: leBytes nnnn
  | .staAbsx nnnn => 0x9D#8 :: leBytes nnnn
  | .stzAbsx nnnn => 0x9E#8 :: leBytes nnnn
  | .bbs1 nn dd => [0x9F#8, nn, dd]
  | .ldyImm nn => [0xA0#8, nn]
  | .ldaIndx nn => [0xA1#8, nn]
  | .ldxImm nn => [0xA2#8, nn]
  | .ldzImm nn => [0xA3#8, nn]
  | .ldyBp nn => [0xA4#8, nn]
  | .ldaBp nn => [0xA5#8, nn]
  | .ldxBp nn => [0xA6#8, nn]
  | .smb2 nn => [0xA7#8, nn]
  | .tay => [0xA8#8]
  | .ldaImm nn => [0xA9#8, nn]
  | .tax => [0xAA#8]
  | .ldzAbs nnnn => 0xAB#8 :: leBytes nnnn
  | .ldyAbs nnnn => 0xAC#8 :: leBytes nnnn
  | .ldaAbs nnnn => 0xAD#8 :: leBytes nnnn
  | .ldxAbs nnnn => 0xAE#8 :: leBytes nnnn
  | .bbs2 nn dd => [0xAF#8, nn, dd]
  | .bcsRel8 dd => [0xB0#8, dd]
  | .ldaIndy nn => [0xB1#8, nn]
  | .ldaIndz nn => [0xB2#8, nn]
  | .bcsRel16 dddd => 0xB3#8 :: leBytes dddd
  | .ldyBpx nn => [0xB4#8, nn]
  | .ldaBpx nn => [0xB5#8, nn]
  | .ldxBpy nn => [0xB6#8, nn]
  | .smb3 nn => [0xB7#8, nn]
  | .clv => [0xB8#8]
  | .ldaAbsy nnnn => 0xB9#8 :: leBytes nnnn
  | .tsx => [0xBA#8]
  | .ldzAbsx nnnn => 0xBB#8 :: leBytes nnnn
  | .ldyAbsx nnnn => 0xBC#8 :: leBytes nnnn
  | .ldaAbsx nnnn => 0xBD#8 :: leBytes nnnn
  | .ldxAbsy nnnn => 0xBE#8 :: leBytes nnnn
  | .bbs3 nn dd => [0xBF#8, nn, dd]
  | .cpyImm nn => [0xC0#8, nn]
  | .cmpIndx nn => [0xC1#8, nn]
  | .cpzImm nn => [0xC2#8, nn]
  | .dew op => 0xC3#8 :: encodeWordOperand op
  | .cpyBp nn => [0xC4#8, nn]
  | .cmpBp nn => [0xC5#8, nn]
  | .decBp nn => [0xC6#8, nn]
  | .smb4 nn => [0xC7#8, nn]
  | .iny => [0xC8#8]
  | .cmpImm nn => [0xC9#8, nn]
  | .dex => [0xCA#8]
  | .asw nnnn => 0xCB#8 :: leBytes nnnn
  | .cpyAbs nnnn => 0xCC#8 :: leBytes nnnn
  | .cmpAbs nnnn => 0xCD#8 :: leBytes nnnn
  | .decAbs nnnn => 0xCE#8 :: leBytes nnnn
  | .bbs4 nn dd => [0xCF#8, nn, dd]
  | .bneRel8 dd => [0xD0#8, dd]
  | .cmpIndy nn => [0xD1#8, nn]
  | .cmpIndz nn => [0xD2#8, nn]
  | .bneRel16 dddd => 0xD3#8 :: leBytes dddd
  | .cpzBp nn => [0xD4#8, nn]
  | .cmpBpx nn => [0xD5#8, nn]
  | .decBpx nn => [0xD6#8, nn]
  | .smb5 nn => [0xD7#8, nn]
  | .cld => [0xD8#8]
  | .cmpAbsy nnnn => 0xD9#8 :: leBytes nnnn
  | .phx => [0xDA#8]
  | .phz => [0xDB#8]
  | .cpzAbs nnnn => 0xDC#8 :: leBytes nnnn
  | .cmpAbsx nnnn => 0xDD#8 :: leBytes nnnn
  | .decAbsx nnnn => 0xDE#8 :: leBytes nnnn
  | .bbs5 nn dd => [0xDF#8, nn, dd]
  | .cpxImm nn => [0xE0#8, nn]
  | .sbcIndx nn => [0xE1#8, nn]
  | .ldaIndsp nn => [0xE2#8, nn]
  | .inw op => 0xE3#8 :: encodeWordOperand op
  | .cpxBp nn => [0xE4#8, nn]
  | .sbcBp nn => [0xE5#8, nn]
  | .incBp nn => [0xE6#8, nn]
  | .smb6 nn => [0xE7#8, nn]
  | .inx => [0xE8#8]
  | .sbcImm nn => [0xE9#8, nn]
  | .nop => [0xEA#8]
  | .row nnnn => 0xEB#8 :: leBytes nnnn
  | .cpxAbs nnnn => 0xEC#8 :: leBytes nnnn
  | .sbcAbs nnnn => 0xED#8 :: leBytes nnnn
  | .incAbs nnnn => 0xEE#8 :: leBytes nnnn
  | .bbs6 nn dd => [0xEF#8, nn, dd]
  | .beqRel8 dd => [0xF0#8, dd]
  | .sbcIndy nn => [0xF1#8, nn]
  | .sbcIndz nn => [0xF2#8, nn]
  | .beqRel16 dddd => 0xF3#8 :: leBytes dddd
  | .phwImm16 nnnn => 0xF4#8 :: leBytes nnnn
  | .sbcBpx nn => [0xF5#8, nn]
  | .incBpx nn => [0xF6#8, nn]
  | .smb7 nn => [0xF7#8, nn]
  | .sed => [0xF8#8]
  | .sbcAbsy nnnn => 0xF9#8 :: leBytes nnnn
  | .plx => [0xFA#8]
  | .plz => [0xFB#8]
  | .phwAbs nnnn => 0xFC#8 :: leBytes nnnn
  | .sbcAbsx nnnn => 0xFD#8 :: leBytes nnnn
  | .incAbsx nnnn => 0xFE#8 :: leBytes nnnn
  | .bbs7 nn dd => [0xFF#8, nn, dd]

/-- The first `k` bytes of a number whose bit 0 is the least significant bit of the first byte. -/
def bytesOfNat : Nat → Nat → List Byte
  | 0, _ => []
  | k + 1, w => BitVec.ofNat 8 w :: bytesOfNat k (w / 256)

/-- The instruction the decoder reads, under the default parameters of R7, from an instruction whose bits are
`w`, with every bit from `nbits` on zero: three bytes are laid out, the longest instruction (R80). -/
def decodeTableWord (nbits w : Nat) : Option Instr :=
  match decode Config.default (bytesOfNat 3 (w % 2 ^ nbits)) with
  | .ok (i, _) => some i
  | .error _ => none

end Sys2Proof
end

