-- ==== Sys2Proof/Machine/Memory.lean ====
section
/-! DEFINITION. The 65536 bytes of memory (R35, R52) as plain data: a list of (address, byte) cells in one
canonical form, and the two access primitives of R50 and R51 on it. -/

namespace Sys2Proof.Machine

/-- The listed cells of memory. A byte that is not listed reads as `Memory.unlisted`. -/
abbrev Memory := List Host.Cell

/-- What a byte of memory that nothing has written reads as. DESIGN CHOICE (unsafe), log entry 3: the spec
gives no reset value for memory (R37); its vectors take `$00` for every byte they do not list. -/
def Memory.unlisted : Byte := 0#8

/-- The byte at an address (R50). -/
def Memory.read : Memory → Nat → Byte
  | [], _ => Memory.unlisted
  | (k, v) :: rest, a => if k = a then v else Memory.read rest a

/-- Memory without any cell for address `a`. -/
def Memory.erase (m : Memory) (a : Nat) : Memory := m.filter (fun c => c.1 != a)

/-- A cell put in its place among rising addresses. -/
def Memory.insert : Memory → Nat → Byte → Memory
  | [], a, v => [(a, v)]
  | (k, w) :: rest, a, v =>
    if a < k then (a, v) :: (k, w) :: rest else (k, w) :: Memory.insert rest a v

/-- Store a byte (R51), keeping the canonical form: writing what an unlisted byte reads as lists nothing. -/
def Memory.write (m : Memory) (a : Nat) (v : Byte) : Memory :=
  if v = Memory.unlisted then m.erase a else (m.erase a).insert a v

/-- The canonical form: addresses strictly rising and inside the 64 KB (R52), and no cell that equals what
an unlisted address reads as. Equal memories are then equal lists. -/
abbrev Memory.wf (m : Memory) : Prop :=
  m.Pairwise (fun c d => c.1 < d.1) ∧ ∀ c ∈ m, c.1 < 65536 ∧ c.2 ≠ Memory.unlisted

/-- `MemRead(addr, 1)` of R9 and R50: an address is 16 bits, so it is already reduced modulo 65536. -/
def Memory.readByte (m : Memory) (a : Word) : Byte := m.read a.toNat

/-- `MemWrite(addr, 1, v)` of R9 and R51. -/
def Memory.writeByte (m : Memory) (a : Word) (v : Byte) : Memory := m.write a.toNat v

/-- `MemRead(addr, 2)` of R9 and R54: low byte at `addr`, high byte at `(addr + 1) mod 65536`. -/
def Memory.readWord (m : Memory) (a : Word) : Word :=
  joinBytes (m.readByte (a + 1#16)) (m.readByte a)

/-- `MemWrite(addr, 2, v)` of R9 and R54: the low byte at `addr`, then the high byte at
`(addr + 1) mod 65536`. -/
def Memory.writeWord (m : Memory) (a : Word) (v : Word) : Memory :=
  (m.writeByte a (loByte v)).writeByte (a + 1#16) (hiByte v)

end Sys2Proof.Machine
end

