-- ==== Sys2Proof/Machine/State.lean ====
section
/-! DEFINITION. The state of the machine as plain data: all that 10_state.md gives it, the three input lines
of 60_exceptions.md as a list, and two fields of the model's own (INVENTORY.md, State). -/

namespace Sys2Proof.Machine

/-- The six stored flags of R28. The b "flag" and bit 5 are not stored (R30), the "???" flag is no part of
the state (R31). -/
structure Status where
  /-- `P.N`, negative -/
  n : Bool
  /-- `P.V`, overflow -/
  v : Bool
  /-- `P.D`, decimal -/
  d : Bool
  /-- `P.I`, interrupt disable -/
  i : Bool
  /-- `P.Z`, zero -/
  z : Bool
  /-- `P.C`, carry -/
  c : Bool
  deriving DecidableEq, Repr

/-- What the environment drives at one instruction boundary (R312 to R314, R316). Log entry 5. -/
structure Inputs where
  /-- RESET is asserted (R314). -/
  reset : Bool
  /-- The NMI input goes from inactive to active (R313). -/
  nmiEdge : Bool
  /-- The level of the IRQ input, `irq_line` (R312). -/
  irqLine : Bool
  deriving DecidableEq, Repr

/-- No line driven. -/
def Inputs.idle : Inputs := ⟨false, false, false⟩

/-- The machine. -/
structure State where
  /-- accumulator (R20) -/
  a : Byte
  /-- X index register (R21) -/
  x : Byte
  /-- Y index register (R22) -/
  y : Byte
  /-- Z index register (R23) -/
  z : Byte
  /-- base page register (R24) -/
  b : Byte
  /-- stack pointer (R25) -/
  sp : Byte
  /-- program counter (R26) -/
  pc : Word
  /-- the six flags (R28) -/
  p : Status
  /-- the NMI latch, `nmi_pending` (R36, R313) -/
  nmiPending : Bool
  /-- the 64 KB of memory (R35) -/
  mem : Memory
  /-- what the environment drives at the coming boundaries, the next one first; an exhausted list drives
  nothing (log entry 5) -/
  inputs : List Inputs
  /-- the MODEL's own: how many free values have been drawn (log entry 6) -/
  drawn : Nat
  /-- the MODEL's own: the parameters of R7 (log entry 1) -/
  cfg : Config
  deriving DecidableEq, Repr

/-- Reasons for which the machine stops. -/
inductive Fault where
  /-- Raised by the step alone, at an instruction boundary whose PC is the modeller's `STOP_ADDRESS` (R366).
  The hardware itself has no fault (R310). Safe: with the parameter unset, as at reset, it is never raised. -/
  | stopAddressReached
  deriving DecidableEq, Repr

/-- Reasons for which an instruction has no meaning. -/
inductive Refusal where
  /-- Raised by `exec` for an instruction that has no meaning yet. Safe. -/
  | notModelled (mnemonic : String)
  /-- Raised by MAP alone: `refuse("MAP: operation unknown in the source")` (R300). Safe. -/
  | mapUnknown
  /-- Raised by CLE alone: `refuse("CLE: operation unknown in the source")` (R295). Safe. -/
  | cleUnknown
  /-- Raised by SEE alone: `refuse("SEE: operation unknown in the source")` (R298). Safe. -/
  | seeUnknown
  /-- Raised by `RTS #$nn` alone: `refuse("RTS #$nn: operation unknown in the source")` (R275). Safe. -/
  | rtsImmUnknown
  deriving DecidableEq, Repr

/-- What a meaning answers. -/
abbrev Result := Host.Outcome State Fault Refusal

/-- The machine right after reset (R37, R350, R351): Z and B zero, I set, D clear, the NMI latch clear and
the PC from `$FFFC`. The spec leaves A, X, Y, SP, N, V, Z, C and memory unspecified: the zeros here are
DESIGN CHOICE (unsafe), log entries 2 and 3. -/
def State.reset : State where
  a := 0#8
  x := 0#8
  y := 0#8
  z := 0#8
  b := 0#8
  sp := 0#8
  pc := Memory.readWord [] 0xFFFC#16
  p := { n := false, v := false, d := false, i := true, z := false, c := false }
  nmiPending := false
  mem := []
  inputs := []
  drawn := 0
  cfg := Config.default

/-! The named updates, one field each (their lemmas: Laws/State.lean). -/

def State.setA (s : State) (v : Byte) : State := { s with a := v }
def State.setX (s : State) (v : Byte) : State := { s with x := v }
def State.setY (s : State) (v : Byte) : State := { s with y := v }
def State.setZ (s : State) (v : Byte) : State := { s with z := v }
def State.setB (s : State) (v : Byte) : State := { s with b := v }
def State.setSp (s : State) (v : Byte) : State := { s with sp := v }
def State.setPc (s : State) (v : Word) : State := { s with pc := v }
def State.setP (s : State) (v : Status) : State := { s with p := v }
def State.setNmiPending (s : State) (v : Bool) : State := { s with nmiPending := v }
def State.setMem (s : State) (v : Memory) : State := { s with mem := v }
def State.setInputs (s : State) (v : List Inputs) : State := { s with inputs := v }
def State.setDrawn (s : State) (v : Nat) : State := { s with drawn := v }

end Sys2Proof.Machine
end

