-- ==== Sys2Proof/Machine/Flags.lean ====
section
/-! DEFINITION. Every flag computation of the spec: the status byte (R29), the N and Z of a result (R9), the
binary and decimal sums (R191 to R194) and the comparison (R198). -/

namespace Sys2Proof.Machine

/-- One flag as a byte, for the formulas that shift it into place. -/
def flagByte (f : Bool) : Byte := if f then 1#8 else 0#8

/-- `PackP(b)` of R9 and R29: the status byte `N V 1 b D I Z C`. -/
def Status.pack (p : Status) (b : Bool) : Byte :=
  (flagByte p.n <<< 7) ||| (flagByte p.v <<< 6) ||| (1#8 <<< 5) ||| (flagByte b <<< 4) |||
    (flagByte p.d <<< 3) ||| (flagByte p.i <<< 2) ||| (flagByte p.z <<< 1) ||| flagByte p.c

/-- `UnpackP(v)` of R9 and R29: bits 5 and 4 of the byte are discarded (R30). -/
def Status.unpack (v : Byte) : Status where
  n := v.getLsbD 7
  v := v.getLsbD 6
  d := v.getLsbD 3
  i := v.getLsbD 2
  z := v.getLsbD 1
  c := v.getLsbD 0

/-- `SetNZ(v)` of R9: N is bit 7 of the byte, Z says that the byte is zero. -/
def State.setNZ (s : State) (v : Byte) : State :=
  s.setP { s.p with n := v.getLsbD 7, z := decide (v = 0#8) }

/-- `SetNZ16(v)` of R9: N is bit 15 of the word, Z says that the word is zero. -/
def State.setNZ16 (s : State) (v : Word) : State :=
  s.setP { s.p with n := v.getLsbD 15, z := decide (v = 0#16) }

/-- `P.C <- f`. -/
def State.setC (s : State) (f : Bool) : State := s.setP { s.p with c := f }

/-- `P.V <- f`. -/
def State.setV (s : State) (f : Bool) : State := s.setP { s.p with v := f }

/-- `P.D <- f`. -/
def State.setD (s : State) (f : Bool) : State := s.setP { s.p with d := f }

/-- `P.I <- f`. -/
def State.setI (s : State) (f : Bool) : State := s.setP { s.p with i := f }

/-- `t <- A + M + P.C` of R191, an exact sum 0..511. -/
def binarySum (a m : Byte) (c : Bool) : Nat := a.toNat + m.toNat + c.toNat

/-- `r <- t mod 256` of R191. -/
def binaryResult (a m : Byte) (c : Bool) : Byte := BitVec.ofNat 8 (binarySum a m c)

/-- `P.C <- t[8]` of R191: 1 iff the sum is 256 or more. -/
def binaryCarry (a m : Byte) (c : Bool) : Bool := decide (256 ≤ binarySum a m c)

/-- `P.V` of R191: `((A xor r) and (M xor r) and $80) != 0`. -/
def binaryOverflow (a m : Byte) (c : Bool) : Bool :=
  decide (((a ^^^ binaryResult a m c) &&& (m ^^^ binaryResult a m c) &&& 0x80#8) ≠ 0#8)

/-- A byte is valid BCD when both of its nibbles are 0..9 (R192). -/
def validBcd (v : Byte) : Bool := decide (v.toNat / 16 ≤ 9) && decide (v.toNat % 16 ≤ 9)

/-- `dec(v) = 10 * v[7:4] + v[3:0]` of R192. -/
def bcdValue (v : Byte) : Nat := 10 * (v.toNat / 16) + v.toNat % 16

/-- `bcd(n) = ((n div 10) << 4) | (n mod 10)` of R192, for n in 0..99. -/
def toBcd (n : Nat) : Byte := (BitVec.ofNat 8 (n / 10) <<< 4) ||| BitVec.ofNat 8 (n % 10)

/-- `s <- dec(A) + dec(M) + P.C` of R192, 0..199. -/
def decimalSum (a m : Byte) (c : Bool) : Nat := bcdValue a + bcdValue m + c.toNat

/-- `d <- dec(A) - dec(M) - (1 - P.C)` of R194, -100..99. -/
def decimalDifference (a m : Byte) (c : Bool) : Int :=
  (bcdValue a : Int) - (bcdValue m : Int) - (1 - (c.toNat : Int))

/-- `Compare(R, M)` of R198: C is the unsigned `R >= M`, Z is `R = M`, N is bit 7 of the difference. -/
def State.compare (s : State) (r m : Byte) : State :=
  s.setP { s.p with n := (r - m).getLsbD 7, z := decide (r = m), c := decide (m.toNat ≤ r.toNat) }

end Sys2Proof.Machine
end

