-- ==== Sys2Proof/Machine/Ops.lean ====
section
/-! DEFINITION. The named operations over memory, registers and the stack, the free values, and the one
operation that takes an exception with the one that returns from it. -/

namespace Sys2Proof.Machine

/-- The six 8-bit registers (R20 to R25). -/
inductive Reg where
  | a
  | x
  | y
  | z
  | b
  | sp
  deriving DecidableEq, Repr

/-- Reading a register gives its 8-bit value (R9); none is hardwired and none has an alias (R38). -/
def State.reg (s : State) : Reg → Byte
  | .a => s.a
  | .x => s.x
  | .y => s.y
  | .z => s.z
  | .b => s.b
  | .sp => s.sp

/-- `r <- v` of R9. -/
def State.setReg (s : State) : Reg → Byte → State
  | .a, v => s.setA v
  | .x, v => s.setX v
  | .y, v => s.setY v
  | .z, v => s.setZ v
  | .b, v => s.setB v
  | .sp, v => s.setSp v

/-- `MemRead(addr, 1)` (R50). -/
def State.readByte (s : State) (a : Word) : Byte := s.mem.readByte a

/-- `MemRead(addr, 2)` (R54). -/
def State.readWord (s : State) (a : Word) : Word := s.mem.readWord a

/-- `MemWrite(addr, 1, v)` (R51). -/
def State.writeByte (s : State) (a : Word) (v : Byte) : State := s.setMem (s.mem.writeByte a v)

/-- `MemWrite(addr, 2, v)` (R54). -/
def State.writeWord (s : State) (a : Word) (v : Word) : State := s.setMem (s.mem.writeWord a v)

/-- `PC <- next`, the address after an instruction of `len` bytes (R27). -/
def State.advance (s : State) (len : Nat) : State := s.setPc (s.pc + BitVec.ofNat 16 len)

/-- The stack address `$0100 | SP` (R25). -/
def State.stackAddr (s : State) : Word := joinBytes 0x01#8 s.sp

/-- `Push(v)` of R9 and R25: store at `$0100 | SP`, then decrement SP modulo 256. -/
def State.push (s : State) (v : Byte) : State := (s.writeByte s.stackAddr v).setSp (s.sp - 1#8)

/-- `Push(w[15:8]); Push(w[7:0])`: a word pushed high byte first (R53, R177, R270, R272). -/
def State.pushWord (s : State) (w : Word) : State := (s.push (hiByte w)).push (loByte w)

/-- The byte that `Pull()` of R9 and R25 returns: SP is incremented modulo 256 first. -/
def State.pulled (s : State) : Byte := s.readByte (joinBytes 0x01#8 (s.sp + 1#8))

/-- The state after `Pull()`: SP incremented modulo 256 (R25). -/
def State.afterPull (s : State) : State := s.setSp (s.sp + 1#8)

/-- `lo <- Pull(); hi <- Pull()` as the word `hi:lo` (R273, R276). -/
def State.pulledWord (s : State) : Word := joinBytes s.afterPull.pulled s.pulled

/-- The state after two pulls. -/
def State.afterPullWord (s : State) : State := s.afterPull.afterPull

/-- One free value is used up. -/
def State.draw (s : State) : State := s.setDrawn (s.drawn + 1)

/-- `A <- any` (R9). Log entry 6. -/
def State.anyA (s : State) : State := (s.setA (Config.freeByte s.drawn)).draw

/-- `P.N <- any`. -/
def State.anyN (s : State) : State := (s.setP { s.p with n := Config.freeBit s.drawn }).draw

/-- `P.V <- any`. -/
def State.anyV (s : State) : State := (s.setP { s.p with v := Config.freeBit s.drawn }).draw

/-- `P.Z <- any`. -/
def State.anyZ (s : State) : State := (s.setP { s.p with z := Config.freeBit s.drawn }).draw

/-- `P.C <- any`. -/
def State.anyC (s : State) : State := (s.setP { s.p with c := Config.freeBit s.drawn }).draw

/-- The vectors of R315. -/
def nmiVector : Word := 0xFFFA#16
/-- The RESET vector of R315. -/
def resetVector : Word := 0xFFFC#16
/-- The IRQ and BRK vector of R315. -/
def irqVector : Word := 0xFFFE#16

/-- TAKING AN EXCEPTION (R318, and R319 for BRK): push the return address, high byte first, and the status
byte with bit 4 as given, holding the flags as they were; set I; clear D if `TRAP_CLEARS_D`; and go to the
address in the vector. No other register or flag changes. -/
def State.takeException (s : State) (ret : Word) (b : Bool) (vector : Word) : State :=
  let pushed := (s.pushWord ret).push (s.p.pack b)
  let masked := pushed.setP { pushed.p with i := true, d := if s.cfg.trapClearsD then false else s.p.d }
  masked.setPc (masked.readWord vector)

/-- RETURNING FROM ONE (R276, R321): pull the status byte into the flags, then the PC, low byte first, with
nothing added. -/
def State.returnFromException (s : State) : State :=
  let flags := s.afterPull.setP (Status.unpack s.pulled)
  flags.afterPullWord.setPc flags.pulledWord

/-- The reset sequence of R350, for a RESET event during a run (R314): nothing is pushed and memory is not
written; what the spec leaves unspecified is free (log entry 7). -/
def State.takeReset (s : State) : State :=
  { s with
    z := 0#8
    b := 0#8
    nmiPending := false
    a := Config.freeByte s.drawn
    x := Config.freeByte (s.drawn + 1)
    y := Config.freeByte (s.drawn + 2)
    sp := Config.freeByte (s.drawn + 3)
    p := { n := Config.freeBit (s.drawn + 4), v := Config.freeBit (s.drawn + 5), d := false, i := true,
           z := Config.freeBit (s.drawn + 6), c := Config.freeBit (s.drawn + 7) }
    drawn := s.drawn + 8
    pc := s.readWord resetVector }

/-- Taking an IRQ (R312, R318): the PC pushed is the address of the next instruction, b = 0. -/
def State.takeIrq (s : State) : State := s.takeException s.pc false irqVector

/-- Taking an NMI (R313, R318): the latch is cleared first. -/
def State.takeNmi (s : State) : State := (s.setNmiPending false).takeException s.pc false nmiVector

end Sys2Proof.Machine
end

