-- ==== Sys2Proof/Machine/Operands.lean ====
section
/-! DEFINITION. The addressing modes of 40_addressing_modes.md and the helpers `EA`, `Load8`, `Store8`,
`Load16`, `Store16` of R130. -/

namespace Sys2Proof.Machine

/-- The ten memory modes of R130, each with its operand field. -/
inductive MemOperand where
  /-- `$nn` (R115) -/
  | bp (nn : Byte)
  /-- `$nn,X` (R116) -/
  | bpx (nn : Byte)
  /-- `$nn,Y` (R117) -/
  | bpy (nn : Byte)
  /-- `$nnnn` (R118) -/
  | abs (nnnn : Word)
  /-- `$nnnn,X` (R119) -/
  | absx (nnnn : Word)
  /-- `$nnnn,Y` (R120) -/
  | absy (nnnn : Word)
  /-- `($nn,X)` (R121) -/
  | indx (nn : Byte)
  /-- `($nn),Y` (R124) -/
  | indy (nn : Byte)
  /-- `($nn),Z` (R122) -/
  | indz (nn : Byte)
  /-- `($nn,SP),Y` (R123) -/
  | indsp (nn : Byte)
  deriving DecidableEq, Repr

/-- What an instruction reads its 8-bit operand from: the instruction itself (R113) or memory. -/
inductive Source where
  | imm8 (nn : Byte)
  | mem (m : MemOperand)
  deriving DecidableEq, Repr

/-- What a read-modify-write works on: the accumulator (R111) or a byte of memory. -/
inductive Place where
  | acc
  | mem (m : MemOperand)
  deriving DecidableEq, Repr

/-- What a jump or call goes to (R118, R128, R129). -/
inductive JumpOperand where
  | abs (nnnn : Word)
  | absind (nnnn : Word)
  | absxind (nnnn : Word)
  deriving DecidableEq, Repr

/-- Instruction length of a memory mode, by its format (R81, R92): F2 is two bytes, F3 three. -/
def MemOperand.length : MemOperand → Nat
  | .bp _ | .bpx _ | .bpy _ | .indx _ | .indy _ | .indz _ | .indsp _ => 2
  | .abs _ | .absx _ | .absy _ => 3

/-- Instruction length of a source operand (R92). -/
def Source.length : Source → Nat
  | .imm8 _ => 2
  | .mem m => m.length

/-- Instruction length of a read-modify-write operand (R92). -/
def Place.length : Place → Nat
  | .acc => 1
  | .mem m => m.length

/-- Instruction length of a word operand of INW or DEW (R96). -/
def wordOperandLength : WordOperand → Nat
  | .abs _ => 3
  | .bp _ => 2

/-- `bp(nn) = B:nn` (R112). -/
def State.bpAddr (s : State) (nn : Byte) : Word := joinBytes s.b nn

/-- A pointer in the base page: both bytes in page B, the address of the second wrapping within the page
(R121, R122, R124), which is also `Load16` in mode `bp` (R130). -/
def State.readWordBp (s : State) (nn : Byte) : Word :=
  joinBytes (s.readByte (s.bpAddr (nn + 1#8))) (s.readByte (s.bpAddr nn))

/-- `Store16` in mode `bp` (R130): low byte at `bp(nn)`, then high byte at `bp((nn + 1) mod 256)`. -/
def State.writeWordBp (s : State) (nn : Byte) (v : Word) : State :=
  (s.writeByte (s.bpAddr nn) (loByte v)).writeByte (s.bpAddr (nn + 1#8)) (hiByte v)

/-- `EA(m)` of R130: the effective address of R115 to R124. -/
def State.ea (s : State) : MemOperand → Word
  | .bp nn => s.bpAddr nn
  | .bpx nn => s.bpAddr (nn + s.x)
  | .bpy nn => s.bpAddr (nn + s.y)
  | .abs nnnn => nnnn
  | .absx nnnn => nnnn + zext16 s.x
  | .absy nnnn => nnnn + zext16 s.y
  | .indx nn => s.readWordBp (nn + s.x)
  | .indy nn => s.readWordBp nn + zext16 s.y
  | .indz nn => s.readWordBp nn + zext16 s.z
  | .indsp nn => s.readWord (0x0100#16 + zext16 s.sp + zext16 nn) + zext16 s.y

/-- `Load8(m)` of R130 for an operand that is only read. -/
def State.load8 (s : State) : Source → Byte
  | .imm8 nn => nn
  | .mem m => s.readByte (s.ea m)

/-- `Load8(m)` of R130 for an operand that is modified. -/
def State.loadPlace (s : State) : Place → Byte
  | .acc => s.a
  | .mem m => s.readByte (s.ea m)

/-- `Store8(m, v)` of R130. -/
def State.store8 (s : State) : Place → Byte → State
  | .acc, v => s.setA v
  | .mem m, v => s.writeByte (s.ea m) v

/-- `Load16(m)` of R130. -/
def State.load16 (s : State) : WordOperand → Word
  | .abs nnnn => s.readWord nnnn
  | .bp nn => s.readWordBp nn

/-- `Store16(m, v)` of R130. -/
def State.store16 (s : State) : WordOperand → Word → State
  | .abs nnnn, v => s.writeWord nnnn v
  | .bp nn, v => s.writeWordBp nn v

/-- Target of a jump or call: R118, R128 or R129. -/
def State.jumpTarget (s : State) : JumpOperand → Word
  | .abs nnnn => nnnn
  | .absind nnnn => s.readWord nnnn
  | .absxind nnnn => s.readWord (nnnn + zext16 s.x)

/-- Target of an 8-bit displacement taken by an instruction of `len` bytes: `next + sext_16(dd)` (R125, R127). -/
def State.rel8Target (s : State) (len : Nat) (dd : Byte) : Word :=
  s.pc + BitVec.ofNat 16 len + sext16 dd

/-- `REL16_BASE` as a number (R7, R126). -/
def rel16Offset : Rel16Base → Word
  | .two => 2#16
  | .three => 3#16

/-- Target of a 16-bit displacement: `PC + REL16_BASE + dddd` (R126). -/
def State.rel16Target (s : State) (dddd : Word) : Word :=
  s.pc + rel16Offset s.cfg.rel16Base + dddd

end Sys2Proof.Machine
end

