-- ==== Sys2Proof/Machine/Arith.lean ====
section
/-! DEFINITION. Arithmetic, logic, compares, BIT, NEG, increments and decrements (43_arith_logic.md). -/

namespace Sys2Proof.Machine

/-- `AddBinary(M)` of R191. -/
def State.addBinary (s : State) (m : Byte) : State :=
  let r := binaryResult s.a m s.p.c
  (((s.setA r).setNZ r).setC (binaryCarry s.a m s.p.c)).setV (binaryOverflow s.a m s.p.c)

/-- What both decimal operations leave when an operand is not valid BCD: A, N, V, Z and C are `any`
(R192, R194). Log entry 6. -/
def State.anyDecimal (s : State) : State := s.anyA.anyN.anyV.anyZ.anyC

/-- `AddDecimal(M)` of R192. -/
def State.addDecimal (s : State) (m : Byte) : State :=
  if validBcd s.a && validBcd m then
    let t := decimalSum s.a m s.p.c
    (((s.setA (toBcd (t % 100))).setNZ (toBcd (t % 100))).setC (decide (100 ≤ t))).anyV
  else s.anyDecimal

/-- `SubDecimal(M)` of R194. -/
def State.subDecimal (s : State) (m : Byte) : State :=
  if validBcd s.a && validBcd m then
    let d := decimalDifference s.a m s.p.c
    let r := if 0 ≤ d then toBcd d.toNat else toBcd (d + 100).toNat
    (((s.setA r).setNZ r).setC (decide (0 ≤ d))).anyV
  else s.anyDecimal

/-- ADC (R190). -/
def State.adc (s : State) (o : Source) : State :=
  (if s.p.d then s.addDecimal (s.load8 o) else s.addBinary (s.load8 o)).advance o.length

/-- SBC (R193): in binary mode, AddBinary of the complement. -/
def State.sbc (s : State) (o : Source) : State :=
  (if s.p.d then s.subDecimal (s.load8 o) else s.addBinary (s.load8 o ^^^ 0xFF#8)).advance o.length

/-- AND (R195). -/
def State.andA (s : State) (o : Source) : State :=
  ((s.setA (s.a &&& s.load8 o)).setNZ (s.a &&& s.load8 o)).advance o.length

/-- ORA (R196). -/
def State.oraA (s : State) (o : Source) : State :=
  ((s.setA (s.a ||| s.load8 o)).setNZ (s.a ||| s.load8 o)).advance o.length

/-- EOR (R197). -/
def State.eorA (s : State) (o : Source) : State :=
  ((s.setA (s.a ^^^ s.load8 o)).setNZ (s.a ^^^ s.load8 o)).advance o.length

/-- CMP, CPX, CPY, CPZ (R198 to R201). -/
def State.compareReg (s : State) (r : Reg) (o : Source) : State :=
  (s.compare (s.reg r) (s.load8 o)).advance o.length

/-- Whether BIT writes N and V: always from memory, from an immediate only under `BIT_IMM_WRITES_NV` (R202). -/
def State.bitWritesNV (s : State) : Source → Bool
  | .imm8 _ => s.cfg.bitImmWritesNV
  | .mem _ => true

/-- BIT (R202). -/
def State.bitTest (s : State) (o : Source) : State :=
  let m := s.load8 o
  let z := decide (s.a &&& m = 0#8)
  (s.setP (if s.bitWritesNV o then { s.p with n := m.getLsbD 7, v := m.getLsbD 6, z := z }
    else { s.p with z := z })).advance o.length

/-- NEG (R203). -/
def State.negate (s : State) : State := ((s.setA (0#8 - s.a)).setNZ (0#8 - s.a)).advance 1

/-- INC (R204). -/
def State.increment (s : State) (o : Place) : State :=
  ((s.store8 o (s.loadPlace o + 1#8)).setNZ (s.loadPlace o + 1#8)).advance o.length

/-- DEC (R205). -/
def State.decrement (s : State) (o : Place) : State :=
  ((s.store8 o (s.loadPlace o - 1#8)).setNZ (s.loadPlace o - 1#8)).advance o.length

/-- INX, INY, INZ (R206 to R208). -/
def State.incrementReg (s : State) (r : Reg) : State :=
  ((s.setReg r (s.reg r + 1#8)).setNZ (s.reg r + 1#8)).advance 1

/-- DEX, DEY, DEZ (R209 to R211). -/
def State.decrementReg (s : State) (r : Reg) : State :=
  ((s.setReg r (s.reg r - 1#8)).setNZ (s.reg r - 1#8)).advance 1

/-- INW (R212). -/
def State.incrementWord (s : State) (op : WordOperand) : State :=
  ((s.store16 op (s.load16 op + 1#16)).setNZ16 (s.load16 op + 1#16)).advance (wordOperandLength op)

/-- DEW (R213). -/
def State.decrementWord (s : State) (op : WordOperand) : State :=
  ((s.store16 op (s.load16 op - 1#16)).setNZ16 (s.load16 op - 1#16)).advance (wordOperandLength op)

/-- 61 `ADC ($nn,X)` (R190). -/
def execAdcIndx (nn : Byte) (s : State) : Result := .next (s.adc (.mem (.indx nn)))
/-- 65 `ADC $nn` (R190). -/
def execAdcBp (nn : Byte) (s : State) : Result := .next (s.adc (.mem (.bp nn)))
/-- 69 `ADC #$nn` (R190). -/
def execAdcImm (nn : Byte) (s : State) : Result := .next (s.adc (.imm8 nn))
/-- 6D `ADC $nnnn` (R190). -/
def execAdcAbs (nnnn : Word) (s : State) : Result := .next (s.adc (.mem (.abs nnnn)))
/-- 71 `ADC ($nn),Y` (R190). -/
def execAdcIndy (nn : Byte) (s : State) : Result := .next (s.adc (.mem (.indy nn)))
/-- 72 `ADC ($nn),Z` (R190). -/
def execAdcIndz (nn : Byte) (s : State) : Result := .next (s.adc (.mem (.indz nn)))
/-- 75 `ADC $nn,X` (R190). -/
def execAdcBpx (nn : Byte) (s : State) : Result := .next (s.adc (.mem (.bpx nn)))
/-- 79 `ADC $nnnn,Y` (R190). -/
def execAdcAbsy (nnnn : Word) (s : State) : Result := .next (s.adc (.mem (.absy nnnn)))
/-- 7D `ADC $nnnn,X` (R190). -/
def execAdcAbsx (nnnn : Word) (s : State) : Result := .next (s.adc (.mem (.absx nnnn)))
/-- E1 `SBC ($nn,X)` (R193). -/
def execSbcIndx (nn : Byte) (s : State) : Result := .next (s.sbc (.mem (.indx nn)))
/-- E5 `SBC $nn` (R193). -/
def execSbcBp (nn : Byte) (s : State) : Result := .next (s.sbc (.mem (.bp nn)))
/-- E9 `SBC #$nn` (R193). -/
def execSbcImm (nn : Byte) (s : State) : Result := .next (s.sbc (.imm8 nn))
/-- ED `SBC $nnnn` (R193). -/
def execSbcAbs (nnnn : Word) (s : State) : Result := .next (s.sbc (.mem (.abs nnnn)))
/-- F1 `SBC ($nn),Y` (R193). -/
def execSbcIndy (nn : Byte) (s : State) : Result := .next (s.sbc (.mem (.indy nn)))
/-- F2 `SBC ($nn),Z` (R193). -/
def execSbcIndz (nn : Byte) (s : State) : Result := .next (s.sbc (.mem (.indz nn)))
/-- F5 `SBC $nn,X` (R193). -/
def execSbcBpx (nn : Byte) (s : State) : Result := .next (s.sbc (.mem (.bpx nn)))
/-- F9 `SBC $nnnn,Y` (R193). -/
def execSbcAbsy (nnnn : Word) (s : State) : Result := .next (s.sbc (.mem (.absy nnnn)))
/-- FD `SBC $nnnn,X` (R193). -/
def execSbcAbsx (nnnn : Word) (s : State) : Result := .next (s.sbc (.mem (.absx nnnn)))
/-- 21 `AND ($nn,X)` (R195). -/
def execAndIndx (nn : Byte) (s : State) : Result := .next (s.andA (.mem (.indx nn)))
/-- 25 `AND $nn` (R195). -/
def execAndBp (nn : Byte) (s : State) : Result := .next (s.andA (.mem (.bp nn)))
/-- 29 `AND #$nn` (R195). -/
def execAndImm (nn : Byte) (s : State) : Result := .next (s.andA (.imm8 nn))
/-- 2D `AND $nnnn` (R195). -/
def execAndAbs (nnnn : Word) (s : State) : Result := .next (s.andA (.mem (.abs nnnn)))
/-- 31 `AND ($nn),Y` (R195). -/
def execAndIndy (nn : Byte) (s : State) : Result := .next (s.andA (.mem (.indy nn)))
/-- 32 `AND ($nn),Z` (R195). -/
def execAndIndz (nn : Byte) (s : State) : Result := .next (s.andA (.mem (.indz nn)))
/-- 35 `AND $nn,X` (R195). -/
def execAndBpx (nn : Byte) (s : State) : Result := .next (s.andA (.mem (.bpx nn)))
/-- 39 `AND $nnnn,Y` (R195). -/
def execAndAbsy (nnnn : Word) (s : State) : Result := .next (s.andA (.mem (.absy nnnn)))
/-- 3D `AND $nnnn,X` (R195). -/
def execAndAbsx (nnnn : Word) (s : State) : Result := .next (s.andA (.mem (.absx nnnn)))
/-- 01 `ORA ($nn,X)` (R196). -/
def execOraIndx (nn : Byte) (s : State) : Result := .next (s.oraA (.mem (.indx nn)))
/-- 05 `ORA $nn` (R196). -/
def execOraBp (nn : Byte) (s : State) : Result := .next (s.oraA (.mem (.bp nn)))
/-- 09 `ORA #$nn` (R196). -/
def execOraImm (nn : Byte) (s : State) : Result := .next (s.oraA (.imm8 nn))
/-- 0D `ORA $nnnn` (R196). -/
def execOraAbs (nnnn : Word) (s : State) : Result := .next (s.oraA (.mem (.abs nnnn)))
/-- 11 `ORA ($nn),Y` (R196). -/
def execOraIndy (nn : Byte) (s : State) : Result := .next (s.oraA (.mem (.indy nn)))
/-- 12 `ORA ($nn),Z` (R196). -/
def execOraIndz (nn : Byte) (s : State) : Result := .next (s.oraA (.mem (.indz nn)))
/-- 15 `ORA $nn,X` (R196). -/
def execOraBpx (nn : Byte) (s : State) : Result := .next (s.oraA (.mem (.bpx nn)))
/-- 19 `ORA $nnnn,Y` (R196). -/
def execOraAbsy (nnnn : Word) (s : State) : Result := .next (s.oraA (.mem (.absy nnnn)))
/-- 1D `ORA $nnnn,X` (R196). -/
def execOraAbsx (nnnn : Word) (s : State) : Result := .next (s.oraA (.mem (.absx nnnn)))
/-- 41 `EOR ($nn,X)` (R197). -/
def execEorIndx (nn : Byte) (s : State) : Result := .next (s.eorA (.mem (.indx nn)))
/-- 45 `EOR $nn` (R197). -/
def execEorBp (nn : Byte) (s : State) : Result := .next (s.eorA (.mem (.bp nn)))
/-- 49 `EOR #$nn` (R197). -/
def execEorImm (nn : Byte) (s : State) : Result := .next (s.eorA (.imm8 nn))
/-- 4D `EOR $nnnn` (R197). -/
def execEorAbs (nnnn : Word) (s : State) : Result := .next (s.eorA (.mem (.abs nnnn)))
/-- 51 `EOR ($nn),Y` (R197). -/
def execEorIndy (nn : Byte) (s : State) : Result := .next (s.eorA (.mem (.indy nn)))
/-- 52 `EOR ($nn),Z` (R197). -/
def execEorIndz (nn : Byte) (s : State) : Result := .next (s.eorA (.mem (.indz nn)))
/-- 55 `EOR $nn,X` (R197). -/
def execEorBpx (nn : Byte) (s : State) : Result := .next (s.eorA (.mem (.bpx nn)))
/-- 59 `EOR $nnnn,Y` (R197). -/
def execEorAbsy (nnnn : Word) (s : State) : Result := .next (s.eorA (.mem (.absy nnnn)))
/-- 5D `EOR $nnnn,X` (R197). -/
def execEorAbsx (nnnn : Word) (s : State) : Result := .next (s.eorA (.mem (.absx nnnn)))
/-- C1 `CMP ($nn,X)` (R198). -/
def execCmpIndx (nn : Byte) (s : State) : Result := .next (s.compareReg .a (.mem (.indx nn)))
/-- C5 `CMP $nn` (R198). -/
def execCmpBp (nn : Byte) (s : State) : Result := .next (s.compareReg .a (.mem (.bp nn)))
/-- C9 `CMP #$nn` (R198). -/
def execCmpImm (nn : Byte) (s : State) : Result := .next (s.compareReg .a (.imm8 nn))
/-- CD `CMP $nnnn` (R198). -/
def execCmpAbs (nnnn : Word) (s : State) : Result := .next (s.compareReg .a (.mem (.abs nnnn)))
/-- D1 `CMP ($nn),Y` (R198). -/
def execCmpIndy (nn : Byte) (s : State) : Result := .next (s.compareReg .a (.mem (.indy nn)))
/-- D2 `CMP ($nn),Z` (R198). -/
def execCmpIndz (nn : Byte) (s : State) : Result := .next (s.compareReg .a (.mem (.indz nn)))
/-- D5 `CMP $nn,X` (R198). -/
def execCmpBpx (nn : Byte) (s : State) : Result := .next (s.compareReg .a (.mem (.bpx nn)))
/-- D9 `CMP $nnnn,Y` (R198). -/
def execCmpAbsy (nnnn : Word) (s : State) : Result := .next (s.compareReg .a (.mem (.absy nnnn)))
/-- DD `CMP $nnnn,X` (R198). -/
def execCmpAbsx (nnnn : Word) (s : State) : Result := .next (s.compareReg .a (.mem (.absx nnnn)))
/-- E0 `CPX #$nn` (R199). -/
def execCpxImm (nn : Byte) (s : State) : Result := .next (s.compareReg .x (.imm8 nn))
/-- E4 `CPX $nn` (R199). -/
def execCpxBp (nn : Byte) (s : State) : Result := .next (s.compareReg .x (.mem (.bp nn)))
/-- EC `CPX $nnnn` (R199). -/
def execCpxAbs (nnnn : Word) (s : State) : Result := .next (s.compareReg .x (.mem (.abs nnnn)))
/-- C0 `CPY #$nn` (R200). -/
def execCpyImm (nn : Byte) (s : State) : Result := .next (s.compareReg .y (.imm8 nn))
/-- C4 `CPY $nn` (R200). -/
def execCpyBp (nn : Byte) (s : State) : Result := .next (s.compareReg .y (.mem (.bp nn)))
/-- CC `CPY $nnnn` (R200). -/
def execCpyAbs (nnnn : Word) (s : State) : Result := .next (s.compareReg .y (.mem (.abs nnnn)))
/-- C2 `CPZ #$nn` (R201). -/
def execCpzImm (nn : Byte) (s : State) : Result := .next (s.compareReg .z (.imm8 nn))
/-- D4 `CPZ $nn` (R201). -/
def execCpzBp (nn : Byte) (s : State) : Result := .next (s.compareReg .z (.mem (.bp nn)))
/-- DC `CPZ $nnnn` (R201). -/
def execCpzAbs (nnnn : Word) (s : State) : Result := .next (s.compareReg .z (.mem (.abs nnnn)))
/-- 24 `BIT $nn` (R202). -/
def execBitBp (nn : Byte) (s : State) : Result := .next (s.bitTest (.mem (.bp nn)))
/-- 2C `BIT $nnnn` (R202). -/
def execBitAbs (nnnn : Word) (s : State) : Result := .next (s.bitTest (.mem (.abs nnnn)))
/-- 34 `BIT $nn,X` (R202). -/
def execBitBpx (nn : Byte) (s : State) : Result := .next (s.bitTest (.mem (.bpx nn)))
/-- 3C `BIT $nnnn,X` (R202). -/
def execBitAbsx (nnnn : Word) (s : State) : Result := .next (s.bitTest (.mem (.absx nnnn)))
/-- 89 `BIT #$nn` (R202). -/
def execBitImm (nn : Byte) (s : State) : Result := .next (s.bitTest (.imm8 nn))
/-- 42 `NEG` (R203). -/
def execNeg (s : State) : Result := .next s.negate
/-- 1A `INC` (R204). -/
def execIncAcc (s : State) : Result := .next (s.increment .acc)
/-- E6 `INC $nn` (R204). -/
def execIncBp (nn : Byte) (s : State) : Result := .next (s.increment (.mem (.bp nn)))
/-- EE `INC $nnnn` (R204). -/
def execIncAbs (nnnn : Word) (s : State) : Result := .next (s.increment (.mem (.abs nnnn)))
/-- F6 `INC $nn,X` (R204). -/
def execIncBpx (nn : Byte) (s : State) : Result := .next (s.increment (.mem (.bpx nn)))
/-- FE `INC $nnnn,X` (R204). -/
def execIncAbsx (nnnn : Word) (s : State) : Result := .next (s.increment (.mem (.absx nnnn)))
/-- 3A `DEC` (R205). -/
def execDecAcc (s : State) : Result := .next (s.decrement .acc)
/-- C6 `DEC $nn` (R205). -/
def execDecBp (nn : Byte) (s : State) : Result := .next (s.decrement (.mem (.bp nn)))
/-- CE `DEC $nnnn` (R205). -/
def execDecAbs (nnnn : Word) (s : State) : Result := .next (s.decrement (.mem (.abs nnnn)))
/-- D6 `DEC $nn,X` (R205). -/
def execDecBpx (nn : Byte) (s : State) : Result := .next (s.decrement (.mem (.bpx nn)))
/-- DE `DEC $nnnn,X` (R205). -/
def execDecAbsx (nnnn : Word) (s : State) : Result := .next (s.decrement (.mem (.absx nnnn)))
/-- E8 `INX` (R206). -/
def execInx (s : State) : Result := .next (s.incrementReg .x)
/-- C8 `INY` (R207). -/
def execIny (s : State) : Result := .next (s.incrementReg .y)
/-- 1B `INZ` (R208). -/
def execInz (s : State) : Result := .next (s.incrementReg .z)
/-- CA `DEX` (R209). -/
def execDex (s : State) : Result := .next (s.decrementReg .x)
/-- 88 `DEY` (R210). -/
def execDey (s : State) : Result := .next (s.decrementReg .y)
/-- 3B `DEZ` (R211). -/
def execDez (s : State) : Result := .next (s.decrementReg .z)
/-- E3 `INW $nnnn` (R212). -/
def execInw (op : WordOperand) (s : State) : Result := .next (s.incrementWord op)
/-- C3 `DEW $nn` (R213). -/
def execDew (op : WordOperand) (s : State) : Result := .next (s.decrementWord op)

end Sys2Proof.Machine
end

