-- ==== Sys2Proof/Machine/BitOps.lean ====
section
/-! DEFINITION. Bit operations and bit branches (45_bit_ops.md). -/

namespace Sys2Proof.Machine

/-- The flags of TRB and TSB: from the stored byte `r` under `source`, only Z from `A and M` under
`wdc65c02` (R240, R241). -/
def State.setBitFlags (s : State) (m r : Byte) : State :=
  match s.cfg.trbTsbFlags with
  | .source => s.setP { s.p with n := r.getLsbD 7, v := r.getLsbD 6, z := decide (r = 0#8) }
  | .wdc65c02 => s.setP { s.p with z := decide (s.a &&& m = 0#8) }

/-- TRB (R240). -/
def State.testResetBits (s : State) (o : MemOperand) : State :=
  let m := s.readByte (s.ea o)
  let r := m &&& (s.a ^^^ 0xFF#8)
  ((s.writeByte (s.ea o) r).setBitFlags m r).advance o.length

/-- TSB (R241). -/
def State.testSetBits (s : State) (o : MemOperand) : State :=
  let m := s.readByte (s.ea o)
  let r := m ||| s.a
  ((s.writeByte (s.ea o) r).setBitFlags m r).advance o.length

/-- RMBi (R242). -/
def State.resetBit (s : State) (i : Nat) (nn : Byte) : State :=
  (s.writeByte (s.bpAddr nn) (s.readByte (s.bpAddr nn) &&& ((1#8 <<< i) ^^^ 0xFF#8))).advance 2

/-- SMBi (R243). -/
def State.setBit (s : State) (i : Nat) (nn : Byte) : State :=
  (s.writeByte (s.bpAddr nn) (s.readByte (s.bpAddr nn) ||| (1#8 <<< i))).advance 2

/-- BBRi and BBSi (R244, R245): branch when bit `i` of the base-page byte is `sense`. -/
def State.branchBit (s : State) (i : Nat) (sense : Bool) (nn dd : Byte) : State :=
  if (s.readByte (s.bpAddr nn)).getLsbD i = sense then s.setPc (s.rel8Target 3 dd) else s.advance 3

/-- 14 `TRB $nn` (R240). -/
def execTrbBp (nn : Byte) (s : State) : Result := .next (s.testResetBits (.bp nn))
/-- 1C `TRB $nnnn` (R240). -/
def execTrbAbs (nnnn : Word) (s : State) : Result := .next (s.testResetBits (.abs nnnn))
/-- 04 `TSB $nn` (R241). -/
def execTsbBp (nn : Byte) (s : State) : Result := .next (s.testSetBits (.bp nn))
/-- 0C `TSB $nnnn` (R241). -/
def execTsbAbs (nnnn : Word) (s : State) : Result := .next (s.testSetBits (.abs nnnn))
/-- 07 `RMB0 $nn` (R242). -/
def execRmb0 (nn : Byte) (s : State) : Result := .next (s.resetBit 0 nn)
/-- 17 `RMB1 $nn` (R242). -/
def execRmb1 (nn : Byte) (s : State) : Result := .next (s.resetBit 1 nn)
/-- 27 `RMB2 $nn` (R242). -/
def execRmb2 (nn : Byte) (s : State) : Result := .next (s.resetBit 2 nn)
/-- 37 `RMB3 $nn` (R242). -/
def execRmb3 (nn : Byte) (s : State) : Result := .next (s.resetBit 3 nn)
/-- 47 `RMB4 $nn` (R242). -/
def execRmb4 (nn : Byte) (s : State) : Result := .next (s.resetBit 4 nn)
/-- 57 `RMB5 $nn` (R242). -/
def execRmb5 (nn : Byte) (s : State) : Result := .next (s.resetBit 5 nn)
/-- 67 `RMB6 $nn` (R242). -/
def execRmb6 (nn : Byte) (s : State) : Result := .next (s.resetBit 6 nn)
/-- 77 `RMB7 $nn` (R242). -/
def execRmb7 (nn : Byte) (s : State) : Result := .next (s.resetBit 7 nn)
/-- 87 `SMB0 $nn` (R243). -/
def execSmb0 (nn : Byte) (s : State) : Result := .next (s.setBit 0 nn)
/-- 97 `SMB1 $nn` (R243). -/
def execSmb1 (nn : Byte) (s : State) : Result := .next (s.setBit 1 nn)
/-- A7 `SMB2 $nn` (R243). -/
def execSmb2 (nn : Byte) (s : State) : Result := .next (s.setBit 2 nn)
/-- B7 `SMB3 $nn` (R243). -/
def execSmb3 (nn : Byte) (s : State) : Result := .next (s.setBit 3 nn)
/-- C7 `SMB4 $nn` (R243). -/
def execSmb4 (nn : Byte) (s : State) : Result := .next (s.setBit 4 nn)
/-- D7 `SMB5 $nn` (R243). -/
def execSmb5 (nn : Byte) (s : State) : Result := .next (s.setBit 5 nn)
/-- E7 `SMB6 $nn` (R243). -/
def execSmb6 (nn : Byte) (s : State) : Result := .next (s.setBit 6 nn)
/-- F7 `SMB7 $nn` (R243). -/
def execSmb7 (nn : Byte) (s : State) : Result := .next (s.setBit 7 nn)
/-- 0F `BBR0 $zp,$nn` (R244). -/
def execBbr0 (nn : Byte) (dd : Byte) (s : State) : Result := .next (s.branchBit 0 false nn dd)
/-- 1F `BBR1 $zp,$nn` (R244). -/
def execBbr1 (nn : Byte) (dd : Byte) (s : State) : Result := .next (s.branchBit 1 false nn dd)
/-- 2F `BBR2 $zp,$nn` (R244). -/
def execBbr2 (nn : Byte) (dd : Byte) (s : State) : Result := .next (s.branchBit 2 false nn dd)
/-- 3F `BBR3 $zp,$nn` (R244). -/
def execBbr3 (nn : Byte) (dd : Byte) (s : State) : Result := .next (s.branchBit 3 false nn dd)
/-- 4F `BBR4 $zp,$nn` (R244). -/
def execBbr4 (nn : Byte) (dd : Byte) (s : State) : Result := .next (s.branchBit 4 false nn dd)
/-- 5F `BBR5 $zp,$nn` (R244). -/
def execBbr5 (nn : Byte) (dd : Byte) (s : State) : Result := .next (s.branchBit 5 false nn dd)
/-- 6F `BBR6 $zp,$nn` (R244). -/
def execBbr6 (nn : Byte) (dd : Byte) (s : State) : Result := .next (s.branchBit 6 false nn dd)
/-- 7F `BBR7 $zp,$nn` (R244). -/
def execBbr7 (nn : Byte) (dd : Byte) (s : State) : Result := .next (s.branchBit 7 false nn dd)
/-- 8F `BBS0 $nn,$nn` (R245). -/
def execBbs0 (nn : Byte) (dd : Byte) (s : State) : Result := .next (s.branchBit 0 true nn dd)
/-- 9F `BBS1 $nn,$nn` (R245). -/
def execBbs1 (nn : Byte) (dd : Byte) (s : State) : Result := .next (s.branchBit 1 true nn dd)
/-- AF `BBS2 $nn,$nn` (R245). -/
def execBbs2 (nn : Byte) (dd : Byte) (s : State) : Result := .next (s.branchBit 2 true nn dd)
/-- BF `BBS3 $nn,$nn` (R245). -/
def execBbs3 (nn : Byte) (dd : Byte) (s : State) : Result := .next (s.branchBit 3 true nn dd)
/-- CF `BBS4 $nn,$nn` (R245). -/
def execBbs4 (nn : Byte) (dd : Byte) (s : State) : Result := .next (s.branchBit 4 true nn dd)
/-- DF `BBS5 $nn,$nn` (R245). -/
def execBbs5 (nn : Byte) (dd : Byte) (s : State) : Result := .next (s.branchBit 5 true nn dd)
/-- EF `BBS6 $nn,$nn` (R245). -/
def execBbs6 (nn : Byte) (dd : Byte) (s : State) : Result := .next (s.branchBit 6 true nn dd)
/-- FF `BBS7 $nn,$nn` (R245). -/
def execBbs7 (nn : Byte) (dd : Byte) (s : State) : Result := .next (s.branchBit 7 true nn dd)

end Sys2Proof.Machine
end

