-- ==== Sys2Proof/Machine/Control.lean ====
section
/-! DEFINITION. Branches, jumps, calls, returns and BRK (46_control_flow.md). -/

namespace Sys2Proof.Machine

/-- The 8-bit form of R260. -/
def State.branch8 (s : State) (cond : Bool) (dd : Byte) : State :=
  if cond then s.setPc (s.rel8Target 2 dd) else s.advance 2

/-- The 16-bit form of R260. -/
def State.branch16 (s : State) (cond : Bool) (dddd : Word) : State :=
  if cond then s.setPc (s.rel16Target dddd) else s.advance 3

/-- The call of R270 and R272: push the address of the instruction's last byte, high byte first, and go to
the target, which is computed before the pushes (R68). -/
def State.callSubroutine (s : State) (target : Word) : State :=
  (s.pushWord (s.pc + 2#16)).setPc target

/-- RTS (R273): pull the address, low byte first, and add 1. -/
def State.returnFromSubroutine (s : State) : State := s.afterPullWord.setPc (s.pulledWord + 1#16)

/-- 90 `BCC $nn` (R261). -/
def execBccRel8 (dd : Byte) (s : State) : Result := .next (s.branch8 (!s.p.c) dd)
/-- 93 `BCC $nnnn` (R261). -/
def execBccRel16 (dddd : Word) (s : State) : Result := .next (s.branch16 (!s.p.c) dddd)
/-- B0 `BCS $nn` (R262). -/
def execBcsRel8 (dd : Byte) (s : State) : Result := .next (s.branch8 s.p.c dd)
/-- B3 `BCS $nnnn` (R262). -/
def execBcsRel16 (dddd : Word) (s : State) : Result := .next (s.branch16 s.p.c dddd)
/-- F0 `BEQ $nn` (R263). -/
def execBeqRel8 (dd : Byte) (s : State) : Result := .next (s.branch8 s.p.z dd)
/-- F3 `BEQ $nnnn` (R263). -/
def execBeqRel16 (dddd : Word) (s : State) : Result := .next (s.branch16 s.p.z dddd)
/-- 30 `BMI $nn` (R264). -/
def execBmiRel8 (dd : Byte) (s : State) : Result := .next (s.branch8 s.p.n dd)
/-- 33 `BMI $nnnn` (R264). -/
def execBmiRel16 (dddd : Word) (s : State) : Result := .next (s.branch16 s.p.n dddd)
/-- D0 `BNE $nn` (R265). -/
def execBneRel8 (dd : Byte) (s : State) : Result := .next (s.branch8 (!s.p.z) dd)
/-- D3 `BNE $nnnn` (R265). -/
def execBneRel16 (dddd : Word) (s : State) : Result := .next (s.branch16 (!s.p.z) dddd)
/-- 10 `BPL $nn` (R266). -/
def execBplRel8 (dd : Byte) (s : State) : Result := .next (s.branch8 (!s.p.n) dd)
/-- 13 `BPL $nnnn` (R266). -/
def execBplRel16 (dddd : Word) (s : State) : Result := .next (s.branch16 (!s.p.n) dddd)
/-- 50 `BVC $nn` (R267). -/
def execBvcRel8 (dd : Byte) (s : State) : Result := .next (s.branch8 (!s.p.v) dd)
/-- 53 `BVC $nnnn` (R267). -/
def execBvcRel16 (dddd : Word) (s : State) : Result := .next (s.branch16 (!s.p.v) dddd)
/-- 70 `BVS $nn` (R268). -/
def execBvsRel8 (dd : Byte) (s : State) : Result := .next (s.branch8 s.p.v dd)
/-- 73 `BVS $nnnn` (R268). -/
def execBvsRel16 (dddd : Word) (s : State) : Result := .next (s.branch16 s.p.v dddd)
/-- 80 `BRA $nn` (R269). -/
def execBraRel8 (dd : Byte) (s : State) : Result := .next (s.branch8 true dd)
/-- 83 `BRA $nnnn` (R269). -/
def execBraRel16 (dddd : Word) (s : State) : Result := .next (s.branch16 true dddd)
/-- 63 `BSR $nnnn` (R270). -/
def execBsr (dddd : Word) (s : State) : Result := .next (s.callSubroutine (s.rel16Target dddd))
/-- 4C `JMP $nnnn` (R271). -/
def execJmpAbs (nnnn : Word) (s : State) : Result := .next (s.setPc (s.jumpTarget (.abs nnnn)))
/-- 6C `JMP ($nnnn)` (R271). -/
def execJmpAbsInd (nnnn : Word) (s : State) : Result := .next (s.setPc (s.jumpTarget (.absind nnnn)))
/-- 7C `JMP ($nnnn,X)` (R271). -/
def execJmpAbsxInd (nnnn : Word) (s : State) : Result := .next (s.setPc (s.jumpTarget (.absxind nnnn)))
/-- 20 `JSR $nnnn` (R272). -/
def execJsrAbs (nnnn : Word) (s : State) : Result := .next (s.callSubroutine (s.jumpTarget (.abs nnnn)))
/-- 22 `JSR ($nnnn)` (R272). -/
def execJsrAbsInd (nnnn : Word) (s : State) : Result := .next (s.callSubroutine (s.jumpTarget (.absind nnnn)))
/-- 23 `JSR ($nnnn,X)` (R272). -/
def execJsrAbsxInd (nnnn : Word) (s : State) : Result := .next (s.callSubroutine (s.jumpTarget (.absxind nnnn)))
/-- 60 `RTS` (R273). -/
def execRts (s : State) : Result := .next s.returnFromSubroutine
/-- 62 `RTS #$nn` (R275). -/
def execRtsImm (_nn : Byte) (_s : State) : Result := .refused .rtsImmUnknown
/-- 40 `RTI` (R276). -/
def execRti (s : State) : Result := .next s.returnFromException
/-- 00 `BRK` (R277). -/
def execBrk (s : State) : Result := .next (s.takeException (s.pc + 2#16) true irqVector)

end Sys2Proof.Machine
end

