-- ==== Sys2Proof/Machine/LoadStore.lean ====
section
/-! DEFINITION. Loads and stores (41_load_store.md). -/

namespace Sys2Proof.Machine

/-- `v <- Load8(m); R <- v; SetNZ(v); PC <- next`, the load of R140 to R143 into register `r`. -/
def State.loadReg (s : State) (r : Reg) (o : Source) : State :=
  ((s.setReg r (s.load8 o)).setNZ (s.load8 o)).advance o.length

/-- `MemWrite(EA(m), 1, R); PC <- next`, the store of R144 to R147 of register `r`. -/
def State.storeReg (s : State) (r : Reg) (m : MemOperand) : State :=
  (s.writeByte (s.ea m) (s.reg r)).advance m.length

/-- A1 `LDA ($nn,X)` (R140). -/
def execLdaIndx (nn : Byte) (s : State) : Result := .next (s.loadReg .a (.mem (.indx nn)))
/-- A5 `LDA $nn` (R140). -/
def execLdaBp (nn : Byte) (s : State) : Result := .next (s.loadReg .a (.mem (.bp nn)))
/-- A9 `LDA #$nn` (R140). -/
def execLdaImm (nn : Byte) (s : State) : Result := .next (s.loadReg .a (.imm8 nn))
/-- AD `LDA $nnnn` (R140). -/
def execLdaAbs (nnnn : Word) (s : State) : Result := .next (s.loadReg .a (.mem (.abs nnnn)))
/-- B1 `LDA ($nn),Y` (R140). -/
def execLdaIndy (nn : Byte) (s : State) : Result := .next (s.loadReg .a (.mem (.indy nn)))
/-- B2 `LDA ($nn),Z` (R140). -/
def execLdaIndz (nn : Byte) (s : State) : Result := .next (s.loadReg .a (.mem (.indz nn)))
/-- B5 `LDA $nn,X` (R140). -/
def execLdaBpx (nn : Byte) (s : State) : Result := .next (s.loadReg .a (.mem (.bpx nn)))
/-- B9 `LDA $nnnn,Y` (R140). -/
def execLdaAbsy (nnnn : Word) (s : State) : Result := .next (s.loadReg .a (.mem (.absy nnnn)))
/-- BD `LDA $nnnn,X` (R140). -/
def execLdaAbsx (nnnn : Word) (s : State) : Result := .next (s.loadReg .a (.mem (.absx nnnn)))
/-- E2 `LDA ($nn,SP),Y` (R140). -/
def execLdaIndsp (nn : Byte) (s : State) : Result := .next (s.loadReg .a (.mem (.indsp nn)))
/-- A2 `LDX #$nn` (R141). -/
def execLdxImm (nn : Byte) (s : State) : Result := .next (s.loadReg .x (.imm8 nn))
/-- A6 `LDX $nn` (R141). -/
def execLdxBp (nn : Byte) (s : State) : Result := .next (s.loadReg .x (.mem (.bp nn)))
/-- AE `LDX $nnnn` (R141). -/
def execLdxAbs (nnnn : Word) (s : State) : Result := .next (s.loadReg .x (.mem (.abs nnnn)))
/-- B6 `LDX $nn,Y` (R141). -/
def execLdxBpy (nn : Byte) (s : State) : Result := .next (s.loadReg .x (.mem (.bpy nn)))
/-- BE `LDX $nnnn,Y` (R141). -/
def execLdxAbsy (nnnn : Word) (s : State) : Result := .next (s.loadReg .x (.mem (.absy nnnn)))
/-- A0 `LDY #$nn` (R142). -/
def execLdyImm (nn : Byte) (s : State) : Result := .next (s.loadReg .y (.imm8 nn))
/-- A4 `LDY $nn` (R142). -/
def execLdyBp (nn : Byte) (s : State) : Result := .next (s.loadReg .y (.mem (.bp nn)))
/-- AC `LDY $nnnn` (R142). -/
def execLdyAbs (nnnn : Word) (s : State) : Result := .next (s.loadReg .y (.mem (.abs nnnn)))
/-- B4 `LDY $nn,X` (R142). -/
def execLdyBpx (nn : Byte) (s : State) : Result := .next (s.loadReg .y (.mem (.bpx nn)))
/-- BC `LDY $nnnn,X` (R142). -/
def execLdyAbsx (nnnn : Word) (s : State) : Result := .next (s.loadReg .y (.mem (.absx nnnn)))
/-- A3 `LDZ #$nn` (R143). -/
def execLdzImm (nn : Byte) (s : State) : Result := .next (s.loadReg .z (.imm8 nn))
/-- AB `LDZ $nnnn` (R143). -/
def execLdzAbs (nnnn : Word) (s : State) : Result := .next (s.loadReg .z (.mem (.abs nnnn)))
/-- BB `LDZ $nnnn,X` (R143). -/
def execLdzAbsx (nnnn : Word) (s : State) : Result := .next (s.loadReg .z (.mem (.absx nnnn)))
/-- 81 `STA ($nn,X)` (R144). -/
def execStaIndx (nn : Byte) (s : State) : Result := .next (s.storeReg .a (.indx nn))
/-- 82 `STA ($nn,SP),Y` (R144). -/
def execStaIndsp (nn : Byte) (s : State) : Result := .next (s.storeReg .a (.indsp nn))
/-- 85 `STA $nn` (R144). -/
def execStaBp (nn : Byte) (s : State) : Result := .next (s.storeReg .a (.bp nn))
/-- 8D `STA $nnnn` (R144). -/
def execStaAbs (nnnn : Word) (s : State) : Result := .next (s.storeReg .a (.abs nnnn))
/-- 91 `STA ($nn),Y` (R144). -/
def execStaIndy (nn : Byte) (s : State) : Result := .next (s.storeReg .a (.indy nn))
/-- 92 `STA ($nn),Z` (R144). -/
def execStaIndz (nn : Byte) (s : State) : Result := .next (s.storeReg .a (.indz nn))
/-- 95 `STA $nn,X` (R144). -/
def execStaBpx (nn : Byte) (s : State) : Result := .next (s.storeReg .a (.bpx nn))
/-- 99 `STA $nnnn,Y` (R144). -/
def execStaAbsy (nnnn : Word) (s : State) : Result := .next (s.storeReg .a (.absy nnnn))
/-- 9D `STA $nnnn,X` (R144). -/
def execStaAbsx (nnnn : Word) (s : State) : Result := .next (s.storeReg .a (.absx nnnn))
/-- 86 `STX $nn` (R145). -/
def execStxBp (nn : Byte) (s : State) : Result := .next (s.storeReg .x (.bp nn))
/-- 8E `STX $nnnn` (R145). -/
def execStxAbs (nnnn : Word) (s : State) : Result := .next (s.storeReg .x (.abs nnnn))
/-- 96 `STX $nn,Y` (R145). -/
def execStxBpy (nn : Byte) (s : State) : Result := .next (s.storeReg .x (.bpy nn))
/-- 9B `STX $nnnn,Y` (R145). -/
def execStxAbsy (nnnn : Word) (s : State) : Result := .next (s.storeReg .x (.absy nnnn))
/-- 84 `STY $nn` (R146). -/
def execStyBp (nn : Byte) (s : State) : Result := .next (s.storeReg .y (.bp nn))
/-- 8B `STY $nnnn,X` (R146). -/
def execStyAbsx (nnnn : Word) (s : State) : Result := .next (s.storeReg .y (.absx nnnn))
/-- 8C `STY $nnnn` (R146). -/
def execStyAbs (nnnn : Word) (s : State) : Result := .next (s.storeReg .y (.abs nnnn))
/-- 94 `STY $nn,X` (R146). -/
def execStyBpx (nn : Byte) (s : State) : Result := .next (s.storeReg .y (.bpx nn))
/-- 64 `STZ $nn` (R147). -/
def execStzBp (nn : Byte) (s : State) : Result := .next (s.storeReg .z (.bp nn))
/-- 74 `STZ $nn,X` (R147). -/
def execStzBpx (nn : Byte) (s : State) : Result := .next (s.storeReg .z (.bpx nn))
/-- 9C `STZ $nnnn` (R147). -/
def execStzAbs (nnnn : Word) (s : State) : Result := .next (s.storeReg .z (.abs nnnn))
/-- 9E `STZ $nnnn,X` (R147). -/
def execStzAbsx (nnnn : Word) (s : State) : Result := .next (s.storeReg .z (.absx nnnn))

end Sys2Proof.Machine
end

