-- ==== Sys2Proof/Machine/Shift.lean ====
section
/-! DEFINITION. Shifts and rotates (44_shift_rotate.md), all by one bit position (R220). -/

namespace Sys2Proof.Machine

/-- The common part of the 8-bit forms (R220): store the result, set N and Z from it and C from the bit
shifted out. -/
def State.shift8 (s : State) (o : Place) (r : Byte) (out : Bool) : State :=
  (((s.store8 o r).setNZ r).setC out).advance o.length

/-- The common part of the 16-bit forms (R220), on the word at an absolute address. -/
def State.shift16 (s : State) (nnnn : Word) (r : Word) (out : Bool) : State :=
  (((s.store16 (.abs nnnn) r).setNZ16 r).setC out).advance 3

/-- ASL (R221). -/
def State.asl (s : State) (o : Place) : State :=
  s.shift8 o (s.loadPlace o <<< 1) ((s.loadPlace o).getLsbD 7)

/-- LSR (R222). -/
def State.lsr (s : State) (o : Place) : State :=
  s.shift8 o (s.loadPlace o >>> 1) ((s.loadPlace o).getLsbD 0)

/-- ROL (R223). -/
def State.rol (s : State) (o : Place) : State :=
  s.shift8 o ((s.loadPlace o <<< 1) ||| flagByte s.p.c) ((s.loadPlace o).getLsbD 7)

/-- ROR (R224). -/
def State.ror (s : State) (o : Place) : State :=
  s.shift8 o ((flagByte s.p.c <<< 7) ||| (s.loadPlace o >>> 1)) ((s.loadPlace o).getLsbD 0)

/-- ASR (R225). -/
def State.asr (s : State) (o : Place) : State :=
  s.shift8 o ((s.loadPlace o &&& 0x80#8) ||| (s.loadPlace o >>> 1)) ((s.loadPlace o).getLsbD 0)

/-- ASW (R226). -/
def State.asw (s : State) (nnnn : Word) : State :=
  s.shift16 nnnn (s.readWord nnnn <<< 1) ((s.readWord nnnn).getLsbD 15)

/-- ROW (R227). -/
def State.row (s : State) (nnnn : Word) : State :=
  s.shift16 nnnn ((zext16 (flagByte s.p.c) <<< 15) ||| (s.readWord nnnn >>> 1)) ((s.readWord nnnn).getLsbD 0)

/-- 06 `ASL $nn` (R221). -/
def execAslBp (nn : Byte) (s : State) : Result := .next (s.asl (.mem (.bp nn)))
/-- 0A `ASL A` (R221). -/
def execAslAcc (s : State) : Result := .next (s.asl .acc)
/-- 0E `ASL $nnnn` (R221). -/
def execAslAbs (nnnn : Word) (s : State) : Result := .next (s.asl (.mem (.abs nnnn)))
/-- 16 `ASL $nn,X` (R221). -/
def execAslBpx (nn : Byte) (s : State) : Result := .next (s.asl (.mem (.bpx nn)))
/-- 1E `ASL $nnnn,X` (R221). -/
def execAslAbsx (nnnn : Word) (s : State) : Result := .next (s.asl (.mem (.absx nnnn)))
/-- 46 `LSR $nn` (R222). -/
def execLsrBp (nn : Byte) (s : State) : Result := .next (s.lsr (.mem (.bp nn)))
/-- 4A `LSR A` (R222). -/
def execLsrAcc (s : State) : Result := .next (s.lsr .acc)
/-- 4E `LSR $nnnn` (R222). -/
def execLsrAbs (nnnn : Word) (s : State) : Result := .next (s.lsr (.mem (.abs nnnn)))
/-- 56 `LSR $nn,X` (R222). -/
def execLsrBpx (nn : Byte) (s : State) : Result := .next (s.lsr (.mem (.bpx nn)))
/-- 5E `LSR $nnnn,X` (R222). -/
def execLsrAbsx (nnnn : Word) (s : State) : Result := .next (s.lsr (.mem (.absx nnnn)))
/-- 26 `ROL $nn` (R223). -/
def execRolBp (nn : Byte) (s : State) : Result := .next (s.rol (.mem (.bp nn)))
/-- 2A `ROL A` (R223). -/
def execRolAcc (s : State) : Result := .next (s.rol .acc)
/-- 2E `ROL $nnnn` (R223). -/
def execRolAbs (nnnn : Word) (s : State) : Result := .next (s.rol (.mem (.abs nnnn)))
/-- 36 `ROL $nn,X` (R223). -/
def execRolBpx (nn : Byte) (s : State) : Result := .next (s.rol (.mem (.bpx nn)))
/-- 3E `ROL $nnnn,X` (R223). -/
def execRolAbsx (nnnn : Word) (s : State) : Result := .next (s.rol (.mem (.absx nnnn)))
/-- 66 `ROR $nn` (R224). -/
def execRorBp (nn : Byte) (s : State) : Result := .next (s.ror (.mem (.bp nn)))
/-- 6A `ROR A` (R224). -/
def execRorAcc (s : State) : Result := .next (s.ror .acc)
/-- 6E `ROR $nnnn` (R224). -/
def execRorAbs (nnnn : Word) (s : State) : Result := .next (s.ror (.mem (.abs nnnn)))
/-- 76 `ROR $nn,X` (R224). -/
def execRorBpx (nn : Byte) (s : State) : Result := .next (s.ror (.mem (.bpx nn)))
/-- 7E `ROR $nnnn,X` (R224). -/
def execRorAbsx (nnnn : Word) (s : State) : Result := .next (s.ror (.mem (.absx nnnn)))
/-- 43 `ASR A` (R225). -/
def execAsrAcc (s : State) : Result := .next (s.asr .acc)
/-- 44 `ASR $nn` (R225). -/
def execAsrBp (nn : Byte) (s : State) : Result := .next (s.asr (.mem (.bp nn)))
/-- 54 `ASR $nn,X` (R225). -/
def execAsrBpx (nn : Byte) (s : State) : Result := .next (s.asr (.mem (.bpx nn)))
/-- CB `ASW $nnnn` (R226). -/
def execAsw (nnnn : Word) (s : State) : Result := .next (s.asw nnnn)
/-- EB `ROW $nnnn` (R227). -/
def execRow (nnnn : Word) (s : State) : Result := .next (s.row nnnn)

end Sys2Proof.Machine
end

