-- ==== Sys2Proof/Machine/System.lean ====
section
/-! DEFINITION. Flag instructions, NOP, and the three the spec refuses: CLE, SEE, MAP (47_flags_system.md). -/

namespace Sys2Proof.Machine

/-- 18 `CLC` (R290). -/
def execClc (s : State) : Result := .next ((s.setC false).advance 1)
/-- 38 `SEC` (R291). -/
def execSec (s : State) : Result := .next ((s.setC true).advance 1)
/-- D8 `CLD` (R292). -/
def execCld (s : State) : Result := .next ((s.setD false).advance 1)
/-- F8 `SED` (R293). -/
def execSed (s : State) : Result := .next ((s.setD true).advance 1)
/-- 58 `CLI` (R294). -/
def execCli (s : State) : Result := .next ((s.setI false).advance 1)
/-- 78 `SEI` (R296). -/
def execSei (s : State) : Result := .next ((s.setI true).advance 1)
/-- B8 `CLV` (R297). -/
def execClv (s : State) : Result := .next ((s.setV false).advance 1)
/-- EA `NOP` (R299). -/
def execNop (s : State) : Result := .next (s.advance 1)
/-- 02 `CLE` (R295). -/
def execCle (_s : State) : Result := .refused .cleUnknown
/-- 03 `SEE` (R298). -/
def execSee (_s : State) : Result := .refused .seeUnknown
/-- 5C `MAP` (R300). -/
def execMap (_s : State) : Result := .refused .mapUnknown

end Sys2Proof.Machine
end

