-- ==== Sys2Proof/Machine/Transfer.lean ====
section
/-! DEFINITION. Register transfers, pushes and pulls (42_transfer_stack.md). -/

namespace Sys2Proof.Machine

/-- A transfer that writes no flag: TAB, TXS, TYS (R163, R169, R171). -/
def State.transfer (s : State) (src dst : Reg) : State := (s.setReg dst (s.reg src)).advance 1

/-- A transfer that sets N and Z from the value moved (R160 to R162, R164 to R168, R170). -/
def State.transferNZ (s : State) (src dst : Reg) : State :=
  ((s.setReg dst (s.reg src)).setNZ (s.reg src)).advance 1

/-- `Push(R); PC <- next` (R172, R174 to R176). -/
def State.pushReg (s : State) (r : Reg) : State := (s.push (s.reg r)).advance 1

/-- `Push(PackP(1)); PC <- next` (R173). -/
def State.pushStatus (s : State) : State := (s.push (s.p.pack true)).advance 1

/-- `Push(w[15:8]); Push(w[7:0]); PC <- next` (R177). -/
def State.pushWordOperand (s : State) (w : Word) : State := (s.pushWord w).advance 3

/-- `R <- Pull(); SetNZ(R); PC <- next` (R178, R180 to R182). -/
def State.pullReg (s : State) (r : Reg) : State :=
  ((s.afterPull.setReg r s.pulled).setNZ s.pulled).advance 1

/-- `UnpackP(Pull()); PC <- next` (R179). -/
def State.pullStatus (s : State) : State := (s.afterPull.setP (Status.unpack s.pulled)).advance 1

/-- AA `TAX` (R160). -/
def execTax (s : State) : Result := .next (s.transferNZ .a .x)
/-- A8 `TAY` (R161). -/
def execTay (s : State) : Result := .next (s.transferNZ .a .y)
/-- 4B `TAZ` (R162). -/
def execTaz (s : State) : Result := .next (s.transferNZ .a .z)
/-- 5B `TAB` (R163). -/
def execTab (s : State) : Result := .next (s.transfer .a .b)
/-- 7B `TBA` (R164). -/
def execTba (s : State) : Result := .next (s.transferNZ .b .a)
/-- 8A `TXA` (R165). -/
def execTxa (s : State) : Result := .next (s.transferNZ .x .a)
/-- 98 `TYA` (R166). -/
def execTya (s : State) : Result := .next (s.transferNZ .y .a)
/-- 6B `TZA` (R167). -/
def execTza (s : State) : Result := .next (s.transferNZ .z .a)
/-- BA `TSX` (R168). -/
def execTsx (s : State) : Result := .next (s.transferNZ .sp .x)
/-- 9A `TXS` (R169). -/
def execTxs (s : State) : Result := .next (s.transfer .x .sp)
/-- 0B `TSY` (R170). -/
def execTsy (s : State) : Result := .next (s.transferNZ .sp .y)
/-- 2B `TYS` (R171). -/
def execTys (s : State) : Result := .next (s.transfer .y .sp)
/-- 48 `PHA` (R172). -/
def execPha (s : State) : Result := .next (s.pushReg .a)
/-- 08 `PHP` (R173). -/
def execPhp (s : State) : Result := .next s.pushStatus
/-- DA `PHX` (R174). -/
def execPhx (s : State) : Result := .next (s.pushReg .x)
/-- 5A `PHY` (R175). -/
def execPhy (s : State) : Result := .next (s.pushReg .y)
/-- DB `PHZ` (R176). -/
def execPhz (s : State) : Result := .next (s.pushReg .z)
/-- F4 `PHW #$nnnn` (R177). -/
def execPhwImm16 (nnnn : Word) (s : State) : Result := .next (s.pushWordOperand nnnn)
/-- FC `PHW $nnnn` (R177). -/
def execPhwAbs (nnnn : Word) (s : State) : Result := .next (s.pushWordOperand (s.readWord nnnn))
/-- 68 `PLA` (R178). -/
def execPla (s : State) : Result := .next (s.pullReg .a)
/-- 28 `PLP` (R179). -/
def execPlp (s : State) : Result := .next s.pullStatus
/-- FA `PLX` (R180). -/
def execPlx (s : State) : Result := .next (s.pullReg .x)
/-- 7A `PLY` (R181). -/
def execPly (s : State) : Result := .next (s.pullReg .y)
/-- FB `PLZ` (R182). -/
def execPlz (s : State) : Result := .next (s.pullReg .z)

end Sys2Proof.Machine
end

