-- ==== Sys2Proof/Machine/Dispatch.lean ====
section
/-! DEFINITION. `exec`: one arm for each constructor of `Instr`, each a direct call of the instruction's own
meaning. -/

namespace Sys2Proof.Machine

def exec (i : Instr) (s : State) : Host.Outcome State Fault Refusal :=
  match i with
  -- Load and store instructions (41_load_store.md)
  | .ldaIndx nn => Sys2Proof.Machine.execLdaIndx nn s
  | .ldaBp nn => Sys2Proof.Machine.execLdaBp nn s
  | .ldaImm nn => Sys2Proof.Machine.execLdaImm nn s
  | .ldaAbs nnnn => Sys2Proof.Machine.execLdaAbs nnnn s
  | .ldaIndy nn => Sys2Proof.Machine.execLdaIndy nn s
  | .ldaIndz nn => Sys2Proof.Machine.execLdaIndz nn s
  | .ldaBpx nn => Sys2Proof.Machine.execLdaBpx nn s
  | .ldaAbsy nnnn => Sys2Proof.Machine.execLdaAbsy nnnn s
  | .ldaAbsx nnnn => Sys2Proof.Machine.execLdaAbsx nnnn s
  | .ldaIndsp nn => Sys2Proof.Machine.execLdaIndsp nn s
  | .ldxImm nn => Sys2Proof.Machine.execLdxImm nn s
  | .ldxBp nn => Sys2Proof.Machine.execLdxBp nn s
  | .ldxAbs nnnn => Sys2Proof.Machine.execLdxAbs nnnn s
  | .ldxBpy nn => Sys2Proof.Machine.execLdxBpy nn s
  | .ldxAbsy nnnn => Sys2Proof.Machine.execLdxAbsy nnnn s
  | .ldyImm nn => Sys2Proof.Machine.execLdyImm nn s
  | .ldyBp nn => Sys2Proof.Machine.execLdyBp nn s
  | .ldyAbs nnnn => Sys2Proof.Machine.execLdyAbs nnnn s
  | .ldyBpx nn => Sys2Proof.Machine.execLdyBpx nn s
  | .ldyAbsx nnnn => Sys2Proof.Machine.execLdyAbsx nnnn s
  | .ldzImm nn => Sys2Proof.Machine.execLdzImm nn s
  | .ldzAbs nnnn => Sys2Proof.Machine.execLdzAbs nnnn s
  | .ldzAbsx nnnn => Sys2Proof.Machine.execLdzAbsx nnnn s
  | .staIndx nn => Sys2Proof.Machine.execStaIndx nn s
  | .staIndsp nn => Sys2Proof.Machine.execStaIndsp nn s
  | .staBp nn => Sys2Proof.Machine.execStaBp nn s
  | .staAbs nnnn => Sys2Proof.Machine.execStaAbs nnnn s
  | .staIndy nn => Sys2Proof.Machine.execStaIndy nn s
  | .staIndz nn => Sys2Proof.Machine.execStaIndz nn s
  | .staBpx nn => Sys2Proof.Machine.execStaBpx nn s
  | .staAbsy nnnn => Sys2Proof.Machine.execStaAbsy nnnn s
  | .staAbsx nnnn => Sys2Proof.Machine.execStaAbsx nnnn s
  | .stxBp nn => Sys2Proof.Machine.execStxBp nn s
  | .stxAbs nnnn => Sys2Proof.Machine.execStxAbs nnnn s
  | .stxBpy nn => Sys2Proof.Machine.execStxBpy nn s
  | .stxAbsy nnnn => Sys2Proof.Machine.execStxAbsy nnnn s
  | .styBp nn => Sys2Proof.Machine.execStyBp nn s
  | .styAbsx nnnn => Sys2Proof.Machine.execStyAbsx nnnn s
  | .styAbs nnnn => Sys2Proof.Machine.execStyAbs nnnn s
  | .styBpx nn => Sys2Proof.Machine.execStyBpx nn s
  | .stzBp nn => Sys2Proof.Machine.execStzBp nn s
  | .stzBpx nn => Sys2Proof.Machine.execStzBpx nn s
  | .stzAbs nnnn => Sys2Proof.Machine.execStzAbs nnnn s
  | .stzAbsx nnnn => Sys2Proof.Machine.execStzAbsx nnnn s
  -- Register transfer and stack instructions (42_transfer_stack.md)
  | .tax => Sys2Proof.Machine.execTax s
  | .tay => Sys2Proof.Machine.execTay s
  | .taz => Sys2Proof.Machine.execTaz s
  | .tab => Sys2Proof.Machine.execTab s
  | .tba => Sys2Proof.Machine.execTba s
  | .txa => Sys2Proof.Machine.execTxa s
  | .tya => Sys2Proof.Machine.execTya s
  | .tza => Sys2Proof.Machine.execTza s
  | .tsx => Sys2Proof.Machine.execTsx s
  | .txs => Sys2Proof.Machine.execTxs s
  | .tsy => Sys2Proof.Machine.execTsy s
  | .tys => Sys2Proof.Machine.execTys s
  | .pha => Sys2Proof.Machine.execPha s
  | .php => Sys2Proof.Machine.execPhp s
  | .phx => Sys2Proof.Machine.execPhx s
  | .phy => Sys2Proof.Machine.execPhy s
  | .phz => Sys2Proof.Machine.execPhz s
  | .phwImm16 nnnn => Sys2Proof.Machine.execPhwImm16 nnnn s
  | .phwAbs nnnn => Sys2Proof.Machine.execPhwAbs nnnn s
  | .pla => Sys2Proof.Machine.execPla s
  | .plp => Sys2Proof.Machine.execPlp s
  | .plx => Sys2Proof.Machine.execPlx s
  | .ply => Sys2Proof.Machine.execPly s
  | .plz => Sys2Proof.Machine.execPlz s
  -- Arithmetic, logic, compare, increment and decrement (43_arith_logic.md)
  | .adcIndx nn => Sys2Proof.Machine.execAdcIndx nn s
  | .adcBp nn => Sys2Proof.Machine.execAdcBp nn s
  | .adcImm nn => Sys2Proof.Machine.execAdcImm nn s
  | .adcAbs nnnn => Sys2Proof.Machine.execAdcAbs nnnn s
  | .adcIndy nn => Sys2Proof.Machine.execAdcIndy nn s
  | .adcIndz nn => Sys2Proof.Machine.execAdcIndz nn s
  | .adcBpx nn => Sys2Proof.Machine.execAdcBpx nn s
  | .adcAbsy nnnn => Sys2Proof.Machine.execAdcAbsy nnnn s
  | .adcAbsx nnnn => Sys2Proof.Machine.execAdcAbsx nnnn s
  | .sbcIndx nn => Sys2Proof.Machine.execSbcIndx nn s
  | .sbcBp nn => Sys2Proof.Machine.execSbcBp nn s
  | .sbcImm nn => Sys2Proof.Machine.execSbcImm nn s
  | .sbcAbs nnnn => Sys2Proof.Machine.execSbcAbs nnnn s
  | .sbcIndy nn => Sys2Proof.Machine.execSbcIndy nn s
  | .sbcIndz nn => Sys2Proof.Machine.execSbcIndz nn s
  | .sbcBpx nn => Sys2Proof.Machine.execSbcBpx nn s
  | .sbcAbsy nnnn => Sys2Proof.Machine.execSbcAbsy nnnn s
  | .sbcAbsx nnnn => Sys2Proof.Machine.execSbcAbsx nnnn s
  | .andIndx nn => Sys2Proof.Machine.execAndIndx nn s
  | .andBp nn => Sys2Proof.Machine.execAndBp nn s
  | .andImm nn => Sys2Proof.Machine.execAndImm nn s
  | .andAbs nnnn => Sys2Proof.Machine.execAndAbs nnnn s
  | .andIndy nn => Sys2Proof.Machine.execAndIndy nn s
  | .andIndz nn => Sys2Proof.Machine.execAndIndz nn s
  | .andBpx nn => Sys2Proof.Machine.execAndBpx nn s
  | .andAbsy nnnn => Sys2Proof.Machine.execAndAbsy nnnn s
  | .andAbsx nnnn => Sys2Proof.Machine.execAndAbsx nnnn s
  | .oraIndx nn => Sys2Proof.Machine.execOraIndx nn s
  | .oraBp nn => Sys2Proof.Machine.execOraBp nn s
  | .oraImm nn => Sys2Proof.Machine.execOraImm nn s
  | .oraAbs nnnn => Sys2Proof.Machine.execOraAbs nnnn s
  | .oraIndy nn => Sys2Proof.Machine.execOraIndy nn s
  | .oraIndz nn => Sys2Proof.Machine.execOraIndz nn s
  | .oraBpx nn => Sys2Proof.Machine.execOraBpx nn s
  | .oraAbsy nnnn => Sys2Proof.Machine.execOraAbsy nnnn s
  | .oraAbsx nnnn => Sys2Proof.Machine.execOraAbsx nnnn s
  | .eorIndx nn => Sys2Proof.Machine.execEorIndx nn s
  | .eorBp nn => Sys2Proof.Machine.execEorBp nn s
  | .eorImm nn => Sys2Proof.Machine.execEorImm nn s
  | .eorAbs nnnn => Sys2Proof.Machine.execEorAbs nnnn s
  | .eorIndy nn => Sys2Proof.Machine.execEorIndy nn s
  | .eorIndz nn => Sys2Proof.Machine.execEorIndz nn s
  | .eorBpx nn => Sys2Proof.Machine.execEorBpx nn s
  | .eorAbsy nnnn => Sys2Proof.Machine.execEorAbsy nnnn s
  | .eorAbsx nnnn => Sys2Proof.Machine.execEorAbsx nnnn s
  | .cmpIndx nn => Sys2Proof.Machine.execCmpIndx nn s
  | .cmpBp nn => Sys2Proof.Machine.execCmpBp nn s
  | .cmpImm nn => Sys2Proof.Machine.execCmpImm nn s
  | .cmpAbs nnnn => Sys2Proof.Machine.execCmpAbs nnnn s
  | .cmpIndy nn => Sys2Proof.Machine.execCmpIndy nn s
  | .cmpIndz nn => Sys2Proof.Machine.execCmpIndz nn s
  | .cmpBpx nn => Sys2Proof.Machine.execCmpBpx nn s
  | .cmpAbsy nnnn => Sys2Proof.Machine.execCmpAbsy nnnn s
  | .cmpAbsx nnnn => Sys2Proof.Machine.execCmpAbsx nnnn s
  | .cpxImm nn => Sys2Proof.Machine.execCpxImm nn s
  | .cpxBp nn => Sys2Proof.Machine.execCpxBp nn s
  | .cpxAbs nnnn => Sys2Proof.Machine.execCpxAbs nnnn s
  | .cpyImm nn => Sys2Proof.Machine.execCpyImm nn s
  | .cpyBp nn => Sys2Proof.Machine.execCpyBp nn s
  | .cpyAbs nnnn => Sys2Proof.Machine.execCpyAbs nnnn s
  | .cpzImm nn => Sys2Proof.Machine.execCpzImm nn s
  | .cpzBp nn => Sys2Proof.Machine.execCpzBp nn s
  | .cpzAbs nnnn => Sys2Proof.Machine.execCpzAbs nnnn s
  | .bitBp nn => Sys2Proof.Machine.execBitBp nn s
  | .bitAbs nnnn => Sys2Proof.Machine.execBitAbs nnnn s
  | .bitBpx nn => Sys2Proof.Machine.execBitBpx nn s
  | .bitAbsx nnnn => Sys2Proof.Machine.execBitAbsx nnnn s
  | .bitImm nn => Sys2Proof.Machine.execBitImm nn s
  | .neg => Sys2Proof.Machine.execNeg s
  | .incAcc => Sys2Proof.Machine.execIncAcc s
  | .incBp nn => Sys2Proof.Machine.execIncBp nn s
  | .incAbs nnnn => Sys2Proof.Machine.execIncAbs nnnn s
  | .incBpx nn => Sys2Proof.Machine.execIncBpx nn s
  | .incAbsx nnnn => Sys2Proof.Machine.execIncAbsx nnnn s
  | .decAcc => Sys2Proof.Machine.execDecAcc s
  | .decBp nn => Sys2Proof.Machine.execDecBp nn s
  | .decAbs nnnn => Sys2Proof.Machine.execDecAbs nnnn s
  | .decBpx nn => Sys2Proof.Machine.execDecBpx nn s
  | .decAbsx nnnn => Sys2Proof.Machine.execDecAbsx nnnn s
  | .inx => Sys2Proof.Machine.execInx s
  | .iny => Sys2Proof.Machine.execIny s
  | .inz => Sys2Proof.Machine.execInz s
  | .dex => Sys2Proof.Machine.execDex s
  | .dey => Sys2Proof.Machine.execDey s
  | .dez => Sys2Proof.Machine.execDez s
  | .inw op => Sys2Proof.Machine.execInw op s
  | .dew op => Sys2Proof.Machine.execDew op s
  -- Shifts and rotates (44_shift_rotate.md)
  | .aslBp nn => Sys2Proof.Machine.execAslBp nn s
  | .aslAcc => Sys2Proof.Machine.execAslAcc s
  | .aslAbs nnnn => Sys2Proof.Machine.execAslAbs nnnn s
  | .aslBpx nn => Sys2Proof.Machine.execAslBpx nn s
  | .aslAbsx nnnn => Sys2Proof.Machine.execAslAbsx nnnn s
  | .lsrBp nn => Sys2Proof.Machine.execLsrBp nn s
  | .lsrAcc => Sys2Proof.Machine.execLsrAcc s
  | .lsrAbs nnnn => Sys2Proof.Machine.execLsrAbs nnnn s
  | .lsrBpx nn => Sys2Proof.Machine.execLsrBpx nn s
  | .lsrAbsx nnnn => Sys2Proof.Machine.execLsrAbsx nnnn s
  | .rolBp nn => Sys2Proof.Machine.execRolBp nn s
  | .rolAcc => Sys2Proof.Machine.execRolAcc s
  | .rolAbs nnnn => Sys2Proof.Machine.execRolAbs nnnn s
  | .rolBpx nn => Sys2Proof.Machine.execRolBpx nn s
  | .rolAbsx nnnn => Sys2Proof.Machine.execRolAbsx nnnn s
  | .rorBp nn => Sys2Proof.Machine.execRorBp nn s
  | .rorAcc => Sys2Proof.Machine.execRorAcc s
  | .rorAbs nnnn => Sys2Proof.Machine.execRorAbs nnnn s
  | .rorBpx nn => Sys2Proof.Machine.execRorBpx nn s
  | .rorAbsx nnnn => Sys2Proof.Machine.execRorAbsx nnnn s
  | .asrAcc => Sys2Proof.Machine.execAsrAcc s
  | .asrBp nn => Sys2Proof.Machine.execAsrBp nn s
  | .asrBpx nn => Sys2Proof.Machine.execAsrBpx nn s
  | .asw nnnn => Sys2Proof.Machine.execAsw nnnn s
  | .row nnnn => Sys2Proof.Machine.execRow nnnn s
  -- Bit operations (45_bit_ops.md)
  | .trbBp nn => Sys2Proof.Machine.execTrbBp nn s
  | .trbAbs nnnn => Sys2Proof.Machine.execTrbAbs nnnn s
  | .tsbBp nn => Sys2Proof.Machine.execTsbBp nn s
  | .tsbAbs nnnn => Sys2Proof.Machine.execTsbAbs nnnn s
  | .rmb0 nn => Sys2Proof.Machine.execRmb0 nn s
  | .rmb1 nn => Sys2Proof.Machine.execRmb1 nn s
  | .rmb2 nn => Sys2Proof.Machine.execRmb2 nn s
  | .rmb3 nn => Sys2Proof.Machine.execRmb3 nn s
  | .rmb4 nn => Sys2Proof.Machine.execRmb4 nn s
  | .rmb5 nn => Sys2Proof.Machine.execRmb5 nn s
  | .rmb6 nn => Sys2Proof.Machine.execRmb6 nn s
  | .rmb7 nn => Sys2Proof.Machine.execRmb7 nn s
  | .smb0 nn => Sys2Proof.Machine.execSmb0 nn s
  | .smb1 nn => Sys2Proof.Machine.execSmb1 nn s
  | .smb2 nn => Sys2Proof.Machine.execSmb2 nn s
  | .smb3 nn => Sys2Proof.Machine.execSmb3 nn s
  | .smb4 nn => Sys2Proof.Machine.execSmb4 nn s
  | .smb5 nn => Sys2Proof.Machine.execSmb5 nn s
  | .smb6 nn => Sys2Proof.Machine.execSmb6 nn s
  | .smb7 nn => Sys2Proof.Machine.execSmb7 nn s
  | .bbr0 nn dd => Sys2Proof.Machine.execBbr0 nn dd s
  | .bbr1 nn dd => Sys2Proof.Machine.execBbr1 nn dd s
  | .bbr2 nn dd => Sys2Proof.Machine.execBbr2 nn dd s
  | .bbr3 nn dd => Sys2Proof.Machine.execBbr3 nn dd s
  | .bbr4 nn dd => Sys2Proof.Machine.execBbr4 nn dd s
  | .bbr5 nn dd => Sys2Proof.Machine.execBbr5 nn dd s
  | .bbr6 nn dd => Sys2Proof.Machine.execBbr6 nn dd s
  | .bbr7 nn dd => Sys2Proof.Machine.execBbr7 nn dd s
  | .bbs0 nn dd => Sys2Proof.Machine.execBbs0 nn dd s
  | .bbs1 nn dd => Sys2Proof.Machine.execBbs1 nn dd s
  | .bbs2 nn dd => Sys2Proof.Machine.execBbs2 nn dd s
  | .bbs3 nn dd => Sys2Proof.Machine.execBbs3 nn dd s
  | .bbs4 nn dd => Sys2Proof.Machine.execBbs4 nn dd s
  | .bbs5 nn dd => Sys2Proof.Machine.execBbs5 nn dd s
  | .bbs6 nn dd => Sys2Proof.Machine.execBbs6 nn dd s
  | .bbs7 nn dd => Sys2Proof.Machine.execBbs7 nn dd s
  -- Control transfer (46_control_flow.md)
  | .bccRel8 dd => Sys2Proof.Machine.execBccRel8 dd s
  | .bccRel16 dddd => Sys2Proof.Machine.execBccRel16 dddd s
  | .bcsRel8 dd => Sys2Proof.Machine.execBcsRel8 dd s
  | .bcsRel16 dddd => Sys2Proof.Machine.execBcsRel16 dddd s
  | .beqRel8 dd => Sys2Proof.Machine.execBeqRel8 dd s
  | .beqRel16 dddd => Sys2Proof.Machine.execBeqRel16 dddd s
  | .bmiRel8 dd => Sys2Proof.Machine.execBmiRel8 dd s
  | .bmiRel16 dddd => Sys2Proof.Machine.execBmiRel16 dddd s
  | .bneRel8 dd => Sys2Proof.Machine.execBneRel8 dd s
  | .bneRel16 dddd => Sys2Proof.Machine.execBneRel16 dddd s
  | .bplRel8 dd => Sys2Proof.Machine.execBplRel8 dd s
  | .bplRel16 dddd => Sys2Proof.Machine.execBplRel16 dddd s
  | .bvcRel8 dd => Sys2Proof.Machine.execBvcRel8 dd s
  | .bvcRel16 dddd => Sys2Proof.Machine.execBvcRel16 dddd s
  | .bvsRel8 dd => Sys2Proof.Machine.execBvsRel8 dd s
  | .bvsRel16 dddd => Sys2Proof.Machine.execBvsRel16 dddd s
  | .braRel8 dd => Sys2Proof.Machine.execBraRel8 dd s
  | .braRel16 dddd => Sys2Proof.Machine.execBraRel16 dddd s
  | .bsr dddd => Sys2Proof.Machine.execBsr dddd s
  | .jmpAbs nnnn => Sys2Proof.Machine.execJmpAbs nnnn s
  | .jmpAbsInd nnnn => Sys2Proof.Machine.execJmpAbsInd nnnn s
  | .jmpAbsxInd nnnn => Sys2Proof.Machine.execJmpAbsxInd nnnn s
  | .jsrAbs nnnn => Sys2Proof.Machine.execJsrAbs nnnn s
  | .jsrAbsInd nnnn => Sys2Proof.Machine.execJsrAbsInd nnnn s
  | .jsrAbsxInd nnnn => Sys2Proof.Machine.execJsrAbsxInd nnnn s
  | .rts => Sys2Proof.Machine.execRts s
  | .rtsImm nn => Sys2Proof.Machine.execRtsImm nn s
  | .rti => Sys2Proof.Machine.execRti s
  | .brk => Sys2Proof.Machine.execBrk s
  -- Flag and system instructions (47_flags_system.md)
  | .clc => Sys2Proof.Machine.execClc s
  | .sec => Sys2Proof.Machine.execSec s
  | .cld => Sys2Proof.Machine.execCld s
  | .sed => Sys2Proof.Machine.execSed s
  | .cli => Sys2Proof.Machine.execCli s
  | .sei => Sys2Proof.Machine.execSei s
  | .clv => Sys2Proof.Machine.execClv s
  | .nop => Sys2Proof.Machine.execNop s
  | .cle => Sys2Proof.Machine.execCle s
  | .see => Sys2Proof.Machine.execSee s
  | .map => Sys2Proof.Machine.execMap s

end Sys2Proof.Machine
end

