-- ==== Sys2Proof/Machine/Boundary.lean ====
section
/-! DEFINITION. What happens at an instruction boundary (R316, R317, R366): the end of the run, the three
input lines in their priority, and the fetch of the next instruction (R56). -/

namespace Sys2Proof.Machine

/-- The instruction at PC (R56): its bytes are read at ascending addresses modulo 65536 (R27). A shorter
instruction ignores the bytes after it, and a read has no effect (R50). -/
def State.fetchInstr (s : State) : Instr :=
  decodeOpcode s.cfg (s.readByte s.pc) (s.readByte (s.pc + 1#16)) (s.readByte (s.pc + 2#16))

/-- PC is the modeller's `STOP_ADDRESS` (R366). -/
def State.atStop (s : State) : Bool := decide (s.cfg.stopAddress = some s.pc)

/-- What the environment drives at this boundary. Log entry 5. -/
def State.inputsNow (s : State) : Inputs := s.inputs.headD Inputs.idle

/-- The lines sampled: this boundary's entry is used up, and an NMI edge sets the latch (R313). -/
def State.sample (s : State) : State :=
  (s.setInputs s.inputs.tail).setNmiPending (s.nmiPending || s.inputsNow.nmiEdge)

/-- An IRQ is taken when its line is asserted and P.I is clear (R312). -/
def State.takesIrq (s : State) : Bool := s.inputsNow.irqLine && !s.p.i

/-- One step (R316): RESET first, then NMI, then IRQ (R317); otherwise one instruction. Taking an event is a
step of its own. At `STOP_ADDRESS` the run ends first (log entry 8). -/
def boundaryStep (s : State) : Result :=
  if s.atStop then .fault .stopAddressReached
  else if s.inputsNow.reset then .next s.sample.takeReset
  else if s.sample.nmiPending then .next s.sample.takeNmi
  else if s.takesIrq then .next s.sample.takeIrq
  else exec s.sample.fetchInstr s.sample

/-- The bytes of an instruction stored at PC and the two addresses after it. -/
def State.placeBytes (s : State) (b0 b1 b2 : Byte) : State :=
  ((s.writeByte s.pc b0).writeByte (s.pc + 1#16) b1).writeByte (s.pc + 2#16) b2

/-- Nothing that would come before the fetch is left at this boundary: no line driven, no NMI pending, no
stop at PC. -/
def State.quiet (s : State) : State :=
  { s with
    inputs := match s.inputs with
      | [] => []
      | _ :: rest => Inputs.idle :: rest
    nmiPending := false
    cfg := { s.cfg with stopAddress := if s.atStop then none else s.cfg.stopAddress } }

/-- An instruction, given as a number whose bit 0 is the least significant bit of its first byte and whose
bits from `nbits` on are zero, stored where the next step fetches it. Log entry 12. -/
def State.placeFetchWord (s : State) (nbits w : Nat) : State :=
  let v := w % 2 ^ nbits
  s.quiet.placeBytes (BitVec.ofNat 8 v) (BitVec.ofNat 8 (v / 256)) (BitVec.ofNat 8 (v / 65536))

end Sys2Proof.Machine
end

