-- ==== Sys2Proof/Machine/Step.lean ====
section
/-! DEFINITION. One step of the machine, and the state that is about to run a given instruction. -/

namespace Sys2Proof.Machine

/-- One step (R316). -/
def step (s : State) : Host.Outcome State Fault Refusal := boundaryStep s

/-- The state `s` about to fetch and run the instruction `w` of `nbits` bits. Log entry 12. -/
def State.withFetchWord (s : State) (nbits w : Nat) : State := s.placeFetchWord nbits w

end Sys2Proof.Machine
end

