-- ==== Sys2Proof/Safety.lean ====
section
/-! DEFINITION. What counts as a safe run: no stop and no refusal (R310, R366). -/

namespace Sys2Proof.Safety

open Sys2Proof.Machine

/-- The four opcodes whose operation the source does not know: CLE, SEE, MAP, `RTS #$nn` (R91). -/
def unknownOpcode (op : Byte) : Bool := op == 0x02#8 || op == 0x03#8 || op == 0x5C#8 || op == 0x62#8

/-- The machine goes on from this state. -/
def goesOn (s : State) : Prop := ∃ t, step s = .next t

/-- A run of `k` steps that ends in a next state: it met neither `STOP_ADDRESS` nor an unknown instruction
(the outcomes of R366). -/
def safeRun (k : Nat) (s : State) : Prop := ∃ t, Sys2Proof.core.run k s = .next t

end Sys2Proof.Safety
end

