-- ==== Sys2Proof/Certificates/Slice0/Obligations.lean ====
section
/-! DEFINITION. The statements for the provers. Each is a `def Obligations.<Name> : Prop`; what they share
stands before them, in `Sys2Proof.Claims`. A form is a row of a rule's table: the instruction, its bytes, and
its operand. -/

namespace Sys2Proof.Claims

open Sys2Proof.Machine

/-- A row of a rule's table of forms. -/
structure Form (α : Type) where
  instr : Instr
  bytes : List Byte
  operand : α

/-- The flags with N and Z of a byte, `SetNZ` of R9. -/
def nz (p : Status) (v : Byte) : Status := { p with n := v.getLsbD 7, z := decide (v.toNat = 0) }

/-- The flags with N and Z of a word, `SetNZ16` of R9. -/
def nz16 (p : Status) (v : Word) : Status := { p with n := v.getLsbD 15, z := decide (v.toNat = 0) }

/-- The stack byte of a stack pointer, `$0100 | SP` (R25). -/
def stackByte (p : Byte) : Word := 0x0100#16 ||| p.setWidth 16

/-- In `t` address `a` reads `v` and every other address reads as in `s`. That a byte stored reads back, at
every address, is the model's choice of plain RAM, option (a) of R59 (log entry 10): R51 says it of RAM only. -/
def storesOne (s t : State) (a : Word) (v : Byte) : Prop :=
  ∀ b, t.readByte b = if b = a then v else s.readByte b

/-- In `t` address `a` reads `v`, address `a'` reads `v'` and every other address reads as in `s`, in plain RAM
as in `storesOne` (log entry 10). -/
def storesTwo (s t : State) (a : Word) (v : Byte) (a' : Word) (v' : Byte) : Prop :=
  ∀ b, t.readByte b = if b = a then v else if b = a' then v' else s.readByte b

/-- The low byte of a number below 65536. -/
def lowByte (n : Nat) : Byte := BitVec.ofNat 8 n

/-- The high byte of a number below 65536. -/
def highByte (n : Nat) : Byte := BitVec.ofNat 8 (n / 256)

/-- The two addresses of the word that INW or DEW works on (R212, R213): consecutive for `abs`, within page
B for `bp`. -/
def wordAddresses (s : State) : WordOperand → Word × Word
  | .abs nnnn => (nnnn, nnnn + 1#16)
  | .bp nn => (s.bpAddr nn, s.bpAddr (nn + 1#8))

/-- The word at two addresses, little-endian, as a number (R53). -/
def wordAt (s : State) (lo hi : Word) : Nat := (s.readByte lo).toNat + 256 * (s.readByte hi).toNat

/-- What an entry leaves (R318, R319): the return address and the status byte on the stack, SP lower by 3, I
set, D cleared if `TRAP_CLEARS_D`, the PC from the vector, and nothing else changed. -/
def entered (s t : State) (ret : Word) (b : Bool) (vector : Word) : Prop :=
  (∀ a, t.readByte a =
    if a = stackByte s.sp then hiByte ret
    else if a = stackByte (s.sp - 1#8) then loByte ret
    else if a = stackByte (s.sp - 2#8) then s.p.pack b
    else s.readByte a) ∧
  t.setMem s.mem = { s with
    sp := s.sp - 3#8
    p := { s.p with i := true, d := if s.cfg.trapClearsD then false else s.p.d }
    pc := BitVec.ofNat 16 (wordAt s vector (vector + 1#16)) }

/-- What a call leaves (R270, R272): the address of the instruction's last byte on the stack, SP lower by 2,
the PC at the target, and nothing else changed. -/
def called (s t : State) (target : Word) : Prop :=
  storesTwo s t (stackByte s.sp) (hiByte (s.pc + 2#16)) (stackByte (s.sp - 1#8)) (loByte (s.pc + 2#16)) ∧
  t.setMem s.mem = { s with sp := s.sp - 2#8, pc := target }

/-- What a read-modify-write of one byte leaves: the result in A or in the byte at the effective address,
these flags, the PC after the instruction, and nothing else changed. -/
def modifies (i : Instr) (bytes : List Byte) (s : State) (r : Byte) (p : Status) : Place → Prop
  | .acc => exec i s = .next { s with a := r, p := p, pc := s.pc + BitVec.ofNat 16 bytes.length }
  | .mem m => ∃ t, exec i s = .next t ∧ storesOne s t (s.ea m) r ∧
      t.setMem s.mem = { s with p := p, pc := s.pc + BitVec.ofNat 16 bytes.length }

/-- The operand a read-modify-write starts from (R130). -/
def modified (s : State) : Place → Byte
  | .acc => s.a
  | .mem m => s.readByte (s.ea m)

/-- A byte is valid BCD (R192). -/
def isBcd (v : Byte) : Prop := v.toNat / 16 ≤ 9 ∧ v.toNat % 16 ≤ 9

/-- `dec(v)` of R192. -/
def dec (v : Byte) : Nat := 10 * (v.toNat / 16) + v.toNat % 16

/-- `bcd(n)` of R192. -/
def bcd (n : Nat) : Byte := BitVec.ofNat 8 (16 * (n / 10) + n % 10)

/-- The number a flag stands for. -/
def one (f : Bool) : Nat := if f then 1 else 0

/-- The opcode byte of an instruction. -/
def opcodeOf (i : Instr) : Byte := (encode i).headD 0#8

/-- The forms of LDA (R140). -/
def ldaForms (nn : Byte) (nnnn : Word) : List (Form Source) :=
  [⟨.ldaIndx nn, [0xA1#8, nn], .mem (.indx nn)⟩,
   ⟨.ldaBp nn, [0xA5#8, nn], .mem (.bp nn)⟩,
   ⟨.ldaImm nn, [0xA9#8, nn], .imm8 nn⟩,
   ⟨.ldaAbs nnnn, [0xAD#8, loByte nnnn, hiByte nnnn], .mem (.abs nnnn)⟩,
   ⟨.ldaIndy nn, [0xB1#8, nn], .mem (.indy nn)⟩,
   ⟨.ldaIndz nn, [0xB2#8, nn], .mem (.indz nn)⟩,
   ⟨.ldaBpx nn, [0xB5#8, nn], .mem (.bpx nn)⟩,
   ⟨.ldaAbsy nnnn, [0xB9#8, loByte nnnn, hiByte nnnn], .mem (.absy nnnn)⟩,
   ⟨.ldaAbsx nnnn, [0xBD#8, loByte nnnn, hiByte nnnn], .mem (.absx nnnn)⟩,
   ⟨.ldaIndsp nn, [0xE2#8, nn], .mem (.indsp nn)⟩]

/-- The forms of LDX (R141). -/
def ldxForms (nn : Byte) (nnnn : Word) : List (Form Source) :=
  [⟨.ldxImm nn, [0xA2#8, nn], .imm8 nn⟩,
   ⟨.ldxBp nn, [0xA6#8, nn], .mem (.bp nn)⟩,
   ⟨.ldxAbs nnnn, [0xAE#8, loByte nnnn, hiByte nnnn], .mem (.abs nnnn)⟩,
   ⟨.ldxBpy nn, [0xB6#8, nn], .mem (.bpy nn)⟩,
   ⟨.ldxAbsy nnnn, [0xBE#8, loByte nnnn, hiByte nnnn], .mem (.absy nnnn)⟩]

/-- The forms of LDY (R142). -/
def ldyForms (nn : Byte) (nnnn : Word) : List (Form Source) :=
  [⟨.ldyImm nn, [0xA0#8, nn], .imm8 nn⟩,
   ⟨.ldyBp nn, [0xA4#8, nn], .mem (.bp nn)⟩,
   ⟨.ldyAbs nnnn, [0xAC#8, loByte nnnn, hiByte nnnn], .mem (.abs nnnn)⟩,
   ⟨.ldyBpx nn, [0xB4#8, nn], .mem (.bpx nn)⟩,
   ⟨.ldyAbsx nnnn, [0xBC#8, loByte nnnn, hiByte nnnn], .mem (.absx nnnn)⟩]

/-- The forms of LDZ (R143). -/
def ldzForms (nn : Byte) (nnnn : Word) : List (Form Source) :=
  [⟨.ldzImm nn, [0xA3#8, nn], .imm8 nn⟩,
   ⟨.ldzAbs nnnn, [0xAB#8, loByte nnnn, hiByte nnnn], .mem (.abs nnnn)⟩,
   ⟨.ldzAbsx nnnn, [0xBB#8, loByte nnnn, hiByte nnnn], .mem (.absx nnnn)⟩]

/-- The forms of STA (R144). -/
def staForms (nn : Byte) (nnnn : Word) : List (Form MemOperand) :=
  [⟨.staIndx nn, [0x81#8, nn], .indx nn⟩,
   ⟨.staIndsp nn, [0x82#8, nn], .indsp nn⟩,
   ⟨.staBp nn, [0x85#8, nn], .bp nn⟩,
   ⟨.staAbs nnnn, [0x8D#8, loByte nnnn, hiByte nnnn], .abs nnnn⟩,
   ⟨.staIndy nn, [0x91#8, nn], .indy nn⟩,
   ⟨.staIndz nn, [0x92#8, nn], .indz nn⟩,
   ⟨.staBpx nn, [0x95#8, nn], .bpx nn⟩,
   ⟨.staAbsy nnnn, [0x99#8, loByte nnnn, hiByte nnnn], .absy nnnn⟩,
   ⟨.staAbsx nnnn, [0x9D#8, loByte nnnn, hiByte nnnn], .absx nnnn⟩]

/-- The forms of STX (R145). -/
def stxForms (nn : Byte) (nnnn : Word) : List (Form MemOperand) :=
  [⟨.stxBp nn, [0x86#8, nn], .bp nn⟩,
   ⟨.stxAbs nnnn, [0x8E#8, loByte nnnn, hiByte nnnn], .abs nnnn⟩,
   ⟨.stxBpy nn, [0x96#8, nn], .bpy nn⟩,
   ⟨.stxAbsy nnnn, [0x9B#8, loByte nnnn, hiByte nnnn], .absy nnnn⟩]

/-- The forms of STY (R146). -/
def styForms (nn : Byte) (nnnn : Word) : List (Form MemOperand) :=
  [⟨.styBp nn, [0x84#8, nn], .bp nn⟩,
   ⟨.styAbsx nnnn, [0x8B#8, loByte nnnn, hiByte nnnn], .absx nnnn⟩,
   ⟨.styAbs nnnn, [0x8C#8, loByte nnnn, hiByte nnnn], .abs nnnn⟩,
   ⟨.styBpx nn, [0x94#8, nn], .bpx nn⟩]

/-- The forms of STZ (R147). -/
def stzForms (nn : Byte) (nnnn : Word) : List (Form MemOperand) :=
  [⟨.stzBp nn, [0x64#8, nn], .bp nn⟩,
   ⟨.stzBpx nn, [0x74#8, nn], .bpx nn⟩,
   ⟨.stzAbs nnnn, [0x9C#8, loByte nnnn, hiByte nnnn], .abs nnnn⟩,
   ⟨.stzAbsx nnnn, [0x9E#8, loByte nnnn, hiByte nnnn], .absx nnnn⟩]

/-- The forms of ADC (R190). -/
def adcForms (nn : Byte) (nnnn : Word) : List (Form Source) :=
  [⟨.adcIndx nn, [0x61#8, nn], .mem (.indx nn)⟩,
   ⟨.adcBp nn, [0x65#8, nn], .mem (.bp nn)⟩,
   ⟨.adcImm nn, [0x69#8, nn], .imm8 nn⟩,
   ⟨.adcAbs nnnn, [0x6D#8, loByte nnnn, hiByte nnnn], .mem (.abs nnnn)⟩,
   ⟨.adcIndy nn, [0x71#8, nn], .mem (.indy nn)⟩,
   ⟨.adcIndz nn, [0x72#8, nn], .mem (.indz nn)⟩,
   ⟨.adcBpx nn, [0x75#8, nn], .mem (.bpx nn)⟩,
   ⟨.adcAbsy nnnn, [0x79#8, loByte nnnn, hiByte nnnn], .mem (.absy nnnn)⟩,
   ⟨.adcAbsx nnnn, [0x7D#8, loByte nnnn, hiByte nnnn], .mem (.absx nnnn)⟩]

/-- The forms of SBC (R193). -/
def sbcForms (nn : Byte) (nnnn : Word) : List (Form Source) :=
  [⟨.sbcIndx nn, [0xE1#8, nn], .mem (.indx nn)⟩,
   ⟨.sbcBp nn, [0xE5#8, nn], .mem (.bp nn)⟩,
   ⟨.sbcImm nn, [0xE9#8, nn], .imm8 nn⟩,
   ⟨.sbcAbs nnnn, [0xED#8, loByte nnnn, hiByte nnnn], .mem (.abs nnnn)⟩,
   ⟨.sbcIndy nn, [0xF1#8, nn], .mem (.indy nn)⟩,
   ⟨.sbcIndz nn, [0xF2#8, nn], .mem (.indz nn)⟩,
   ⟨.sbcBpx nn, [0xF5#8, nn], .mem (.bpx nn)⟩,
   ⟨.sbcAbsy nnnn, [0xF9#8, loByte nnnn, hiByte nnnn], .mem (.absy nnnn)⟩,
   ⟨.sbcAbsx nnnn, [0xFD#8, loByte nnnn, hiByte nnnn], .mem (.absx nnnn)⟩]

/-- The forms of AND (R195). -/
def andForms (nn : Byte) (nnnn : Word) : List (Form Source) :=
  [⟨.andIndx nn, [0x21#8, nn], .mem (.indx nn)⟩,
   ⟨.andBp nn, [0x25#8, nn], .mem (.bp nn)⟩,
   ⟨.andImm nn, [0x29#8, nn], .imm8 nn⟩,
   ⟨.andAbs nnnn, [0x2D#8, loByte nnnn, hiByte nnnn], .mem (.abs nnnn)⟩,
   ⟨.andIndy nn, [0x31#8, nn], .mem (.indy nn)⟩,
   ⟨.andIndz nn, [0x32#8, nn], .mem (.indz nn)⟩,
   ⟨.andBpx nn, [0x35#8, nn], .mem (.bpx nn)⟩,
   ⟨.andAbsy nnnn, [0x39#8, loByte nnnn, hiByte nnnn], .mem (.absy nnnn)⟩,
   ⟨.andAbsx nnnn, [0x3D#8, loByte nnnn, hiByte nnnn], .mem (.absx nnnn)⟩]

/-- The forms of ORA (R196). -/
def oraForms (nn : Byte) (nnnn : Word) : List (Form Source) :=
  [⟨.oraIndx nn, [0x01#8, nn], .mem (.indx nn)⟩,
   ⟨.oraBp nn, [0x05#8, nn], .mem (.bp nn)⟩,
   ⟨.oraImm nn, [0x09#8, nn], .imm8 nn⟩,
   ⟨.oraAbs nnnn, [0x0D#8, loByte nnnn, hiByte nnnn], .mem (.abs nnnn)⟩,
   ⟨.oraIndy nn, [0x11#8, nn], .mem (.indy nn)⟩,
   ⟨.oraIndz nn, [0x12#8, nn], .mem (.indz nn)⟩,
   ⟨.oraBpx nn, [0x15#8, nn], .mem (.bpx nn)⟩,
   ⟨.oraAbsy nnnn, [0x19#8, loByte nnnn, hiByte nnnn], .mem (.absy nnnn)⟩,
   ⟨.oraAbsx nnnn, [0x1D#8, loByte nnnn, hiByte nnnn], .mem (.absx nnnn)⟩]

/-- The forms of EOR (R197). -/
def eorForms (nn : Byte) (nnnn : Word) : List (Form Source) :=
  [⟨.eorIndx nn, [0x41#8, nn], .mem (.indx nn)⟩,
   ⟨.eorBp nn, [0x45#8, nn], .mem (.bp nn)⟩,
   ⟨.eorImm nn, [0x49#8, nn], .imm8 nn⟩,
   ⟨.eorAbs nnnn, [0x4D#8, loByte nnnn, hiByte nnnn], .mem (.abs nnnn)⟩,
   ⟨.eorIndy nn, [0x51#8, nn], .mem (.indy nn)⟩,
   ⟨.eorIndz nn, [0x52#8, nn], .mem (.indz nn)⟩,
   ⟨.eorBpx nn, [0x55#8, nn], .mem (.bpx nn)⟩,
   ⟨.eorAbsy nnnn, [0x59#8, loByte nnnn, hiByte nnnn], .mem (.absy nnnn)⟩,
   ⟨.eorAbsx nnnn, [0x5D#8, loByte nnnn, hiByte nnnn], .mem (.absx nnnn)⟩]

/-- The forms of CMP (R198). -/
def cmpForms (nn : Byte) (nnnn : Word) : List (Form Source) :=
  [⟨.cmpIndx nn, [0xC1#8, nn], .mem (.indx nn)⟩,
   ⟨.cmpBp nn, [0xC5#8, nn], .mem (.bp nn)⟩,
   ⟨.cmpImm nn, [0xC9#8, nn], .imm8 nn⟩,
   ⟨.cmpAbs nnnn, [0xCD#8, loByte nnnn, hiByte nnnn], .mem (.abs nnnn)⟩,
   ⟨.cmpIndy nn, [0xD1#8, nn], .mem (.indy nn)⟩,
   ⟨.cmpIndz nn, [0xD2#8, nn], .mem (.indz nn)⟩,
   ⟨.cmpBpx nn, [0xD5#8, nn], .mem (.bpx nn)⟩,
   ⟨.cmpAbsy nnnn, [0xD9#8, loByte nnnn, hiByte nnnn], .mem (.absy nnnn)⟩,
   ⟨.cmpAbsx nnnn, [0xDD#8, loByte nnnn, hiByte nnnn], .mem (.absx nnnn)⟩]

/-- The forms of CPX (R199). -/
def cpxForms (nn : Byte) (nnnn : Word) : List (Form Source) :=
  [⟨.cpxImm nn, [0xE0#8, nn], .imm8 nn⟩,
   ⟨.cpxBp nn, [0xE4#8, nn], .mem (.bp nn)⟩,
   ⟨.cpxAbs nnnn, [0xEC#8, loByte nnnn, hiByte nnnn], .mem (.abs nnnn)⟩]

/-- The forms of CPY (R200). -/
def cpyForms (nn : Byte) (nnnn : Word) : List (Form Source) :=
  [⟨.cpyImm nn, [0xC0#8, nn], .imm8 nn⟩,
   ⟨.cpyBp nn, [0xC4#8, nn], .mem (.bp nn)⟩,
   ⟨.cpyAbs nnnn, [0xCC#8, loByte nnnn, hiByte nnnn], .mem (.abs nnnn)⟩]

/-- The forms of CPZ (R201). -/
def cpzForms (nn : Byte) (nnnn : Word) : List (Form Source) :=
  [⟨.cpzImm nn, [0xC2#8, nn], .imm8 nn⟩,
   ⟨.cpzBp nn, [0xD4#8, nn], .mem (.bp nn)⟩,
   ⟨.cpzAbs nnnn, [0xDC#8, loByte nnnn, hiByte nnnn], .mem (.abs nnnn)⟩]

/-- The forms of BIT (R202). -/
def bitForms (nn : Byte) (nnnn : Word) : List (Form Source) :=
  [⟨.bitBp nn, [0x24#8, nn], .mem (.bp nn)⟩,
   ⟨.bitAbs nnnn, [0x2C#8, loByte nnnn, hiByte nnnn], .mem (.abs nnnn)⟩,
   ⟨.bitBpx nn, [0x34#8, nn], .mem (.bpx nn)⟩,
   ⟨.bitAbsx nnnn, [0x3C#8, loByte nnnn, hiByte nnnn], .mem (.absx nnnn)⟩,
   ⟨.bitImm nn, [0x89#8, nn], .imm8 nn⟩]

/-- The forms of INC (R204). -/
def incForms (nn : Byte) (nnnn : Word) : List (Form Place) :=
  [⟨.incAcc, [0x1A#8], .acc⟩,
   ⟨.incBp nn, [0xE6#8, nn], .mem (.bp nn)⟩,
   ⟨.incAbs nnnn, [0xEE#8, loByte nnnn, hiByte nnnn], .mem (.abs nnnn)⟩,
   ⟨.incBpx nn, [0xF6#8, nn], .mem (.bpx nn)⟩,
   ⟨.incAbsx nnnn, [0xFE#8, loByte nnnn, hiByte nnnn], .mem (.absx nnnn)⟩]

/-- The forms of DEC (R205). -/
def decForms (nn : Byte) (nnnn : Word) : List (Form Place) :=
  [⟨.decAcc, [0x3A#8], .acc⟩,
   ⟨.decBp nn, [0xC6#8, nn], .mem (.bp nn)⟩,
   ⟨.decAbs nnnn, [0xCE#8, loByte nnnn, hiByte nnnn], .mem (.abs nnnn)⟩,
   ⟨.decBpx nn, [0xD6#8, nn], .mem (.bpx nn)⟩,
   ⟨.decAbsx nnnn, [0xDE#8, loByte nnnn, hiByte nnnn], .mem (.absx nnnn)⟩]

/-- The forms of ASL (R221). -/
def aslForms (nn : Byte) (nnnn : Word) : List (Form Place) :=
  [⟨.aslBp nn, [0x06#8, nn], .mem (.bp nn)⟩,
   ⟨.aslAcc, [0x0A#8], .acc⟩,
   ⟨.aslAbs nnnn, [0x0E#8, loByte nnnn, hiByte nnnn], .mem (.abs nnnn)⟩,
   ⟨.aslBpx nn, [0x16#8, nn], .mem (.bpx nn)⟩,
   ⟨.aslAbsx nnnn, [0x1E#8, loByte nnnn, hiByte nnnn], .mem (.absx nnnn)⟩]

/-- The forms of LSR (R222). -/
def lsrForms (nn : Byte) (nnnn : Word) : List (Form Place) :=
  [⟨.lsrBp nn, [0x46#8, nn], .mem (.bp nn)⟩,
   ⟨.lsrAcc, [0x4A#8], .acc⟩,
   ⟨.lsrAbs nnnn, [0x4E#8, loByte nnnn, hiByte nnnn], .mem (.abs nnnn)⟩,
   ⟨.lsrBpx nn, [0x56#8, nn], .mem (.bpx nn)⟩,
   ⟨.lsrAbsx nnnn, [0x5E#8, loByte nnnn, hiByte nnnn], .mem (.absx nnnn)⟩]

/-- The forms of ROL (R223). -/
def rolForms (nn : Byte) (nnnn : Word) : List (Form Place) :=
  [⟨.rolBp nn, [0x26#8, nn], .mem (.bp nn)⟩,
   ⟨.rolAcc, [0x2A#8], .acc⟩,
   ⟨.rolAbs nnnn, [0x2E#8, loByte nnnn, hiByte nnnn], .mem (.abs nnnn)⟩,
   ⟨.rolBpx nn, [0x36#8, nn], .mem (.bpx nn)⟩,
   ⟨.rolAbsx nnnn, [0x3E#8, loByte nnnn, hiByte nnnn], .mem (.absx nnnn)⟩]

/-- The forms of ROR (R224). -/
def rorForms (nn : Byte) (nnnn : Word) : List (Form Place) :=
  [⟨.rorBp nn, [0x66#8, nn], .mem (.bp nn)⟩,
   ⟨.rorAcc, [0x6A#8], .acc⟩,
   ⟨.rorAbs nnnn, [0x6E#8, loByte nnnn, hiByte nnnn], .mem (.abs nnnn)⟩,
   ⟨.rorBpx nn, [0x76#8, nn], .mem (.bpx nn)⟩,
   ⟨.rorAbsx nnnn, [0x7E#8, loByte nnnn, hiByte nnnn], .mem (.absx nnnn)⟩]

/-- The forms of ASR (R225). -/
def asrForms (nn : Byte) (_nnnn : Word) : List (Form Place) :=
  [⟨.asrAcc, [0x43#8], .acc⟩,
   ⟨.asrBp nn, [0x44#8, nn], .mem (.bp nn)⟩,
   ⟨.asrBpx nn, [0x54#8, nn], .mem (.bpx nn)⟩]

/-- The forms of TRB (R240). -/
def trbForms (nn : Byte) (nnnn : Word) : List (Form MemOperand) :=
  [⟨.trbBp nn, [0x14#8, nn], .bp nn⟩,
   ⟨.trbAbs nnnn, [0x1C#8, loByte nnnn, hiByte nnnn], .abs nnnn⟩]

/-- The forms of TSB (R241). -/
def tsbForms (nn : Byte) (nnnn : Word) : List (Form MemOperand) :=
  [⟨.tsbBp nn, [0x04#8, nn], .bp nn⟩,
   ⟨.tsbAbs nnnn, [0x0C#8, loByte nnnn, hiByte nnnn], .abs nnnn⟩]

/-- RMB0 to RMB7 (R242). -/
def rmbs (nn : Byte) : List Instr :=
  [.rmb0 nn, .rmb1 nn, .rmb2 nn, .rmb3 nn, .rmb4 nn, .rmb5 nn, .rmb6 nn, .rmb7 nn]

/-- SMB0 to SMB7 (R243). -/
def smbs (nn : Byte) : List Instr :=
  [.smb0 nn, .smb1 nn, .smb2 nn, .smb3 nn, .smb4 nn, .smb5 nn, .smb6 nn, .smb7 nn]

/-- BBR0 to BBR7 (R244). -/
def bbrs (nn dd : Byte) : List Instr :=
  [.bbr0 nn dd, .bbr1 nn dd, .bbr2 nn dd, .bbr3 nn dd, .bbr4 nn dd, .bbr5 nn dd, .bbr6 nn dd, .bbr7 nn dd]

/-- BBS0 to BBS7 (R245). -/
def bbss (nn dd : Byte) : List Instr :=
  [.bbs0 nn dd, .bbs1 nn dd, .bbs2 nn dd, .bbs3 nn dd, .bbs4 nn dd, .bbs5 nn dd, .bbs6 nn dd, .bbs7 nn dd]

/-- The branches of R260 to R269: 8-bit form, its opcode, 16-bit form, its opcode, condition. -/
def branches (s : State) (dd : Byte) (dddd : Word) : List (Instr × Byte × Instr × Byte × Bool) :=
  [(.bccRel8 dd, 0x90#8, .bccRel16 dddd, 0x93#8, !s.p.c),
   (.bcsRel8 dd, 0xB0#8, .bcsRel16 dddd, 0xB3#8, s.p.c),
   (.beqRel8 dd, 0xF0#8, .beqRel16 dddd, 0xF3#8, s.p.z),
   (.bmiRel8 dd, 0x30#8, .bmiRel16 dddd, 0x33#8, s.p.n),
   (.bneRel8 dd, 0xD0#8, .bneRel16 dddd, 0xD3#8, !s.p.z),
   (.bplRel8 dd, 0x10#8, .bplRel16 dddd, 0x13#8, !s.p.n),
   (.bvcRel8 dd, 0x50#8, .bvcRel16 dddd, 0x53#8, !s.p.v),
   (.bvsRel8 dd, 0x70#8, .bvsRel16 dddd, 0x73#8, s.p.v),
   (.braRel8 dd, 0x80#8, .braRel16 dddd, 0x83#8, true)]

/-- Opcodes of the instructions that R38 lists as writing A. -/
def aWriters : List Byte :=
  [0x01#8, 0x05#8, 0x09#8, 0x0A#8, 0x0D#8, 0x11#8, 0x12#8, 0x15#8, 0x19#8, 0x1A#8, 0x1D#8, 0x21#8,
   0x25#8, 0x29#8, 0x2A#8, 0x2D#8, 0x31#8, 0x32#8, 0x35#8, 0x39#8, 0x3A#8, 0x3D#8, 0x41#8, 0x42#8,
   0x43#8, 0x45#8, 0x49#8, 0x4A#8, 0x4D#8, 0x51#8, 0x52#8, 0x55#8, 0x59#8, 0x5D#8, 0x61#8, 0x65#8,
   0x68#8, 0x69#8, 0x6A#8, 0x6B#8, 0x6D#8, 0x71#8, 0x72#8, 0x75#8, 0x79#8, 0x7B#8, 0x7D#8, 0x8A#8,
   0x98#8, 0xA1#8, 0xA5#8, 0xA9#8, 0xAD#8, 0xB1#8, 0xB2#8, 0xB5#8, 0xB9#8, 0xBD#8, 0xE1#8, 0xE2#8,
   0xE5#8, 0xE9#8, 0xED#8, 0xF1#8, 0xF2#8, 0xF5#8, 0xF9#8, 0xFD#8]

/-- Opcodes of the instructions that R38 lists as writing X. -/
def xWriters : List Byte :=
  [0xA2#8, 0xA6#8, 0xAA#8, 0xAE#8, 0xB6#8, 0xBA#8, 0xBE#8, 0xCA#8, 0xE8#8, 0xFA#8]

/-- Opcodes of the instructions that R38 lists as writing Y. -/
def yWriters : List Byte :=
  [0x0B#8, 0x7A#8, 0x88#8, 0xA0#8, 0xA4#8, 0xA8#8, 0xAC#8, 0xB4#8, 0xBC#8, 0xC8#8]

/-- Opcodes of the instructions that R38 lists as writing Z. -/
def zWriters : List Byte :=
  [0x1B#8, 0x3B#8, 0x4B#8, 0xA3#8, 0xAB#8, 0xBB#8, 0xFB#8]

/-- Opcodes of the instructions that R38 lists as writing B. -/
def bWriters : List Byte :=
  [0x5B#8]

/-- Opcodes of the instructions that R38 lists as writing SP. -/
def spWriters : List Byte :=
  [0x00#8, 0x08#8, 0x20#8, 0x22#8, 0x23#8, 0x28#8, 0x2B#8, 0x40#8, 0x48#8, 0x5A#8, 0x60#8, 0x63#8,
   0x68#8, 0x7A#8, 0x9A#8, 0xDA#8, 0xDB#8, 0xF4#8, 0xFA#8, 0xFB#8, 0xFC#8]

/-- Opcodes of the instructions that R57 lists with a write or a push. -/
def memWriters : List Byte :=
  [0x00#8, 0x04#8, 0x06#8, 0x07#8, 0x08#8, 0x0C#8, 0x0E#8, 0x14#8, 0x16#8, 0x17#8, 0x1C#8, 0x1E#8,
   0x20#8, 0x22#8, 0x23#8, 0x26#8, 0x27#8, 0x2E#8, 0x36#8, 0x37#8, 0x3E#8, 0x44#8, 0x46#8, 0x47#8,
   0x48#8, 0x4E#8, 0x54#8, 0x56#8, 0x57#8, 0x5A#8, 0x5E#8, 0x63#8, 0x64#8, 0x66#8, 0x67#8, 0x6E#8,
   0x74#8, 0x76#8, 0x77#8, 0x7E#8, 0x81#8, 0x82#8, 0x84#8, 0x85#8, 0x86#8, 0x87#8, 0x8B#8, 0x8C#8,
   0x8D#8, 0x8E#8, 0x91#8, 0x92#8, 0x94#8, 0x95#8, 0x96#8, 0x97#8, 0x99#8, 0x9B#8, 0x9C#8, 0x9D#8,
   0x9E#8, 0xA7#8, 0xB7#8, 0xC3#8, 0xC6#8, 0xC7#8, 0xCB#8, 0xCE#8, 0xD6#8, 0xD7#8, 0xDA#8, 0xDB#8,
   0xDE#8, 0xE3#8, 0xE6#8, 0xE7#8, 0xEB#8, 0xEE#8, 0xF4#8, 0xF6#8, 0xF7#8, 0xFC#8, 0xFE#8]

/-- Opcodes of the instructions that R32 lists with N, TRB and TSB apart. -/
def nFlagWriters : List Byte :=
  [0x01#8, 0x05#8, 0x06#8, 0x09#8, 0x0A#8, 0x0B#8, 0x0D#8, 0x0E#8, 0x11#8, 0x12#8, 0x15#8, 0x16#8,
   0x19#8, 0x1A#8, 0x1B#8, 0x1D#8, 0x1E#8, 0x21#8, 0x24#8, 0x25#8, 0x26#8, 0x28#8, 0x29#8, 0x2A#8,
   0x2C#8, 0x2D#8, 0x2E#8, 0x31#8, 0x32#8, 0x34#8, 0x35#8, 0x36#8, 0x39#8, 0x3A#8, 0x3B#8, 0x3C#8,
   0x3D#8, 0x3E#8, 0x40#8, 0x41#8, 0x42#8, 0x43#8, 0x44#8, 0x45#8, 0x46#8, 0x49#8, 0x4A#8, 0x4B#8,
   0x4D#8, 0x4E#8, 0x51#8, 0x52#8, 0x54#8, 0x55#8, 0x56#8, 0x59#8, 0x5D#8, 0x5E#8, 0x61#8, 0x65#8,
   0x66#8, 0x68#8, 0x69#8, 0x6A#8, 0x6B#8, 0x6D#8, 0x6E#8, 0x71#8, 0x72#8, 0x75#8, 0x76#8, 0x79#8,
   0x7A#8, 0x7B#8, 0x7D#8, 0x7E#8, 0x88#8, 0x8A#8, 0x98#8, 0xA0#8, 0xA1#8, 0xA2#8, 0xA3#8, 0xA4#8,
   0xA5#8, 0xA6#8, 0xA8#8, 0xA9#8, 0xAA#8, 0xAB#8, 0xAC#8, 0xAD#8, 0xAE#8, 0xB1#8, 0xB2#8, 0xB4#8,
   0xB5#8, 0xB6#8, 0xB9#8, 0xBA#8, 0xBB#8, 0xBC#8, 0xBD#8, 0xBE#8, 0xC0#8, 0xC1#8, 0xC2#8, 0xC3#8,
   0xC4#8, 0xC5#8, 0xC6#8, 0xC8#8, 0xC9#8, 0xCA#8, 0xCB#8, 0xCC#8, 0xCD#8, 0xCE#8, 0xD1#8, 0xD2#8,
   0xD4#8, 0xD5#8, 0xD6#8, 0xD9#8, 0xDC#8, 0xDD#8, 0xDE#8, 0xE0#8, 0xE1#8, 0xE2#8, 0xE3#8, 0xE4#8,
   0xE5#8, 0xE6#8, 0xE8#8, 0xE9#8, 0xEB#8, 0xEC#8, 0xED#8, 0xEE#8, 0xF1#8, 0xF2#8, 0xF5#8, 0xF6#8,
   0xF9#8, 0xFA#8, 0xFB#8, 0xFD#8, 0xFE#8]

/-- Opcodes of the instructions that R32 lists with V, TRB and TSB apart. -/
def vFlagWriters : List Byte :=
  [0x24#8, 0x28#8, 0x2C#8, 0x34#8, 0x3C#8, 0x40#8, 0x61#8, 0x65#8, 0x69#8, 0x6D#8, 0x71#8, 0x72#8,
   0x75#8, 0x79#8, 0x7D#8, 0xB8#8, 0xE1#8, 0xE5#8, 0xE9#8, 0xED#8, 0xF1#8, 0xF2#8, 0xF5#8, 0xF9#8,
   0xFD#8]

/-- Opcodes of the instructions that R32 lists with D. -/
def dFlagWriters : List Byte :=
  [0x00#8, 0x28#8, 0x40#8, 0xD8#8, 0xF8#8]

/-- Opcodes of the instructions that R32 lists with I. -/
def iFlagWriters : List Byte :=
  [0x00#8, 0x28#8, 0x40#8, 0x58#8, 0x78#8]

/-- Opcodes of the instructions that R32 lists with Z. -/
def zFlagWriters : List Byte :=
  [0x01#8, 0x04#8, 0x05#8, 0x06#8, 0x09#8, 0x0A#8, 0x0B#8, 0x0C#8, 0x0D#8, 0x0E#8, 0x11#8, 0x12#8,
   0x14#8, 0x15#8, 0x16#8, 0x19#8, 0x1A#8, 0x1B#8, 0x1C#8, 0x1D#8, 0x1E#8, 0x21#8, 0x24#8, 0x25#8,
   0x26#8, 0x28#8, 0x29#8, 0x2A#8, 0x2C#8, 0x2D#8, 0x2E#8, 0x31#8, 0x32#8, 0x34#8, 0x35#8, 0x36#8,
   0x39#8, 0x3A#8, 0x3B#8, 0x3C#8, 0x3D#8, 0x3E#8, 0x40#8, 0x41#8, 0x42#8, 0x43#8, 0x44#8, 0x45#8,
   0x46#8, 0x49#8, 0x4A#8, 0x4B#8, 0x4D#8, 0x4E#8, 0x51#8, 0x52#8, 0x54#8, 0x55#8, 0x56#8, 0x59#8,
   0x5D#8, 0x5E#8, 0x61#8, 0x65#8, 0x66#8, 0x68#8, 0x69#8, 0x6A#8, 0x6B#8, 0x6D#8, 0x6E#8, 0x71#8,
   0x72#8, 0x75#8, 0x76#8, 0x79#8, 0x7A#8, 0x7B#8, 0x7D#8, 0x7E#8, 0x88#8, 0x89#8, 0x8A#8, 0x98#8,
   0xA0#8, 0xA1#8, 0xA2#8, 0xA3#8, 0xA4#8, 0xA5#8, 0xA6#8, 0xA8#8, 0xA9#8, 0xAA#8, 0xAB#8, 0xAC#8,
   0xAD#8, 0xAE#8, 0xB1#8, 0xB2#8, 0xB4#8, 0xB5#8, 0xB6#8, 0xB9#8, 0xBA#8, 0xBB#8, 0xBC#8, 0xBD#8,
   0xBE#8, 0xC0#8, 0xC1#8, 0xC2#8, 0xC3#8, 0xC4#8, 0xC5#8, 0xC6#8, 0xC8#8, 0xC9#8, 0xCA#8, 0xCB#8,
   0xCC#8, 0xCD#8, 0xCE#8, 0xD1#8, 0xD2#8, 0xD4#8, 0xD5#8, 0xD6#8, 0xD9#8, 0xDC#8, 0xDD#8, 0xDE#8,
   0xE0#8, 0xE1#8, 0xE2#8, 0xE3#8, 0xE4#8, 0xE5#8, 0xE6#8, 0xE8#8, 0xE9#8, 0xEB#8, 0xEC#8, 0xED#8,
   0xEE#8, 0xF1#8, 0xF2#8, 0xF5#8, 0xF6#8, 0xF9#8, 0xFA#8, 0xFB#8, 0xFD#8, 0xFE#8]

/-- Opcodes of the instructions that R32 lists with C. -/
def cFlagWriters : List Byte :=
  [0x06#8, 0x0A#8, 0x0E#8, 0x16#8, 0x18#8, 0x1E#8, 0x26#8, 0x28#8, 0x2A#8, 0x2E#8, 0x36#8, 0x38#8,
   0x3E#8, 0x40#8, 0x43#8, 0x44#8, 0x46#8, 0x4A#8, 0x4E#8, 0x54#8, 0x56#8, 0x5E#8, 0x61#8, 0x65#8,
   0x66#8, 0x69#8, 0x6A#8, 0x6D#8, 0x6E#8, 0x71#8, 0x72#8, 0x75#8, 0x76#8, 0x79#8, 0x7D#8, 0x7E#8,
   0xC0#8, 0xC1#8, 0xC2#8, 0xC4#8, 0xC5#8, 0xC9#8, 0xCB#8, 0xCC#8, 0xCD#8, 0xD1#8, 0xD2#8, 0xD4#8,
   0xD5#8, 0xD9#8, 0xDC#8, 0xDD#8, 0xE0#8, 0xE1#8, 0xE4#8, 0xE5#8, 0xE9#8, 0xEB#8, 0xEC#8, 0xED#8,
   0xF1#8, 0xF2#8, 0xF5#8, 0xF9#8, 0xFD#8]

/-- Opcodes of TRB and TSB. -/
def bitFlagOpcodes : List Byte :=
  [0x04#8, 0x0C#8, 0x14#8, 0x1C#8]

end Sys2Proof.Claims

open Sys2Proof Sys2Proof.Machine Sys2Proof.Claims

/-! Encoding. -/

/-- R80, R81, R89, R92: decoding the bytes of an instruction the configuration has gives it back, with every
operand at every value, whatever follows it. -/
def Obligations.DecodeInvertsEncode : Prop :=
  ∀ (cfg : Config) (i : Instr) (rest : List Byte), i.wellFormed cfg = true →
    decode cfg (encode i ++ rest) = .ok (i, rest)

/-- R80, R89, R90: what a list of bytes decodes to has exactly those bytes: no byte has two readings. -/
def Obligations.EncodeInvertsDecode : Prop :=
  ∀ (cfg : Config) (bytes : List Byte) (i : Instr) (rest : List Byte), decode cfg bytes = .ok (i, rest) →
    encode i ++ rest = bytes ∧ i.wellFormed cfg = true

/-- R80, R90: any bytes decode, and the opcode alone gives the length, which is 1, 2 or 3. -/
def Obligations.EveryByteSequenceDecodes : Prop :=
  ∀ (cfg : Config) (op b1 b2 : Byte) (rest : List Byte),
    ∃ i r, decode cfg (op :: b1 :: b2 :: rest) = .ok (i, r) ∧ (encode i).length = opcodeLength cfg op ∧
      1 ≤ opcodeLength cfg op ∧ opcodeLength cfg op ≤ 3

/-- R82: the opcodes of RMBi, SMBi, BBRi, BBSi are formulas of the bit number. -/
def Obligations.BitNumberIsInTheOpcode : Prop :=
  ∀ nn dd : Byte,
    (∀ r ∈ (rmbs nn).zipIdx, encode r.1 = [BitVec.ofNat 8 (16 * r.2 + 0x07), nn]) ∧
    (∀ r ∈ (smbs nn).zipIdx, encode r.1 = [BitVec.ofNat 8 (0x80 + 16 * r.2 + 0x07), nn]) ∧
    (∀ r ∈ (bbrs nn dd).zipIdx, encode r.1 = [BitVec.ofNat 8 (16 * r.2 + 0x0F), nn, dd]) ∧
    (∀ r ∈ (bbss nn dd).zipIdx, encode r.1 = [BitVec.ofNat 8 (0x80 + 16 * r.2 + 0x0F), nn, dd])

/-- R81, R84, R89: a few words written out from the map decode to the instruction they stand for. -/
def Obligations.SampleWordsDecode : Prop :=
  decode Config.default [0xB2#8, 0x40#8] = .ok (.ldaIndz 0x40#8, []) ∧
  decode Config.default [0x43#8, 0x99#8] = .ok (.asrAcc, [0x99#8]) ∧
  decode Config.default [0x20#8, 0x00#8, 0xD0#8] = .ok (.jsrAbs 0xD000#16, []) ∧
  decode Config.default [0x7F#8, 0x10#8, 0xFD#8] = .ok (.bbr7 0x10#8 0xFD#8, []) ∧
  decode Config.default [0xF4#8, 0x34#8, 0x12#8] = .ok (.phwImm16 0x1234#16, []) ∧
  decode Config.default [0xC3#8, 0x10#8, 0xEA#8] = .ok (.dew (.bp 0x10#8), [0xEA#8]) ∧
  decode Config.default [0xE3#8, 0x00#8, 0x30#8] = .ok (.inw (.abs 0x3000#16), []) ∧
  decode Config.default [0x53#8, 0xFD#8, 0xFF#8] = .ok (.bvcRel16 0xFFFD#16, [])

/-! Memory. -/

/-- The read-after-write law of plain RAM: a read after a write of the same address gives the byte written, a
read of any other address is not affected, and nothing but memory changes. That this holds at every address
is the model's choice, option (a) of R59 (log entry 10): R51 says that the byte reads back only "provided the
location is RAM". -/
def Obligations.ReadAfterWrite : Prop :=
  ∀ (s : State) (a : Word) (v : Byte),
    storesOne s (s.writeByte a v) a v ∧ (s.writeByte a v).setMem s.mem = s

/-- R53, R54, R130: a word is two bytes, low byte at the address; the second address wraps at `$FFFF`, and
within page B for a base-page word. That the bytes written read back at every address is the model's choice
of plain RAM, option (a) of R59 (log entry 10). -/
def Obligations.WordsAreLittleEndian : Prop :=
  ∀ (s : State) (a : Word) (nn : Byte) (v : Word),
    (s.readWord a).toNat = wordAt s a (a + 1#16) ∧
    storesTwo s (s.writeWord a v) a (lowByte v.toNat) (a + 1#16) (highByte v.toNat) ∧
    (s.readWordBp nn).toNat = wordAt s (s.bpAddr nn) (s.bpAddr (nn + 1#8)) ∧
    storesTwo s (s.writeWordBp nn v) (s.bpAddr nn) (lowByte v.toNat) (s.bpAddr (nn + 1#8)) (highByte v.toNat)

/-- The model's own form of memory (log entry 3): two memories in canonical form that read the same at every
address are equal. -/
def Obligations.CanonicalMemoryIsUnique : Prop :=
  ∀ m m' : Memory, m.wf → m'.wf → (∀ a : Word, m.readByte a = m'.readByte a) → m = m'

/-- Every step keeps memory in its canonical form: cells inside the 64 KB of R52, addresses rising, none that
reads as an unlisted byte does. The form is the model's choice (log entry 3). -/
def Obligations.StepKeepsMemoryCanonical : Prop :=
  ∀ s t : State, s.mem.wf → step s = .next t → t.mem.wf

/-- The reset state's memory is in canonical form, the model's choice (log entry 3). -/
def Obligations.ResetMemoryIsCanonical : Prop := State.reset.mem.wf

/-! Reset, the boundary, and the events. -/

/-- R37, R351: the values the spec gives for reset. The reset state's other values are the model's choice
(log entries 2 and 3) and nothing is said of them here. -/
def Obligations.ResetValues : Prop :=
  State.reset.z = 0#8 ∧ State.reset.b = 0#8 ∧ State.reset.p.i = true ∧ State.reset.p.d = false ∧
    State.reset.nmiPending = false ∧ State.reset.pc = State.reset.readWord 0xFFFC#16

/-- R314, R350: a RESET event at a boundary, before anything else there. What R350 leaves `any` is not
mentioned. The model's choices here: the stop address comes first (log entry 8), RESET is an entry of the list
of inputs and the step uses that entry up (log entry 5), and the parameters are a field of the state that
stays (log entry 1). -/
def Obligations.ResetEventRunsTheResetSequence : Prop :=
  ∀ s : State, s.cfg.stopAddress ≠ some s.pc → s.inputsNow.reset = true →
    ∃ t, step s = .next t ∧ t.z = 0#8 ∧ t.b = 0#8 ∧ t.p.i = true ∧ t.p.d = false ∧ t.nmiPending = false ∧
      t.pc = BitVec.ofNat 16 (wordAt s 0xFFFC#16 0xFFFD#16) ∧ t.mem = s.mem ∧ t.inputs = s.inputs.tail ∧
      t.cfg = s.cfg

/-- R313, R317, R318: a pending NMI, or an edge at this boundary, is taken whatever P.I and the IRQ line are:
the latch is cleared and the entry uses `$FFFA` with b = 0. The model's choices here: the lines are a list of
inputs of which the step uses up one entry, and an edge is taken at the boundary it comes at (log entry 5);
the stop address comes first (log entry 8). -/
def Obligations.NmiEntry : Prop :=
  ∀ s : State, s.cfg.stopAddress ≠ some s.pc → s.inputsNow.reset = false →
    (s.nmiPending = true ∨ s.inputsNow.nmiEdge = true) →
    ∃ t, step s = .next t ∧
      entered { s with inputs := s.inputs.tail, nmiPending := false } t s.pc false 0xFFFA#16

/-- R312, R318: an asserted IRQ line with P.I clear, and no RESET or NMI, is taken: the entry uses `$FFFE`
with b = 0 and pushes the address of the next instruction. The model's choices here: the lines are a list of
inputs of which the step uses up one entry (log entry 5); the stop address comes first (log entry 8). -/
def Obligations.IrqEntry : Prop :=
  ∀ s : State, s.cfg.stopAddress ≠ some s.pc → s.inputsNow.reset = false → s.nmiPending = false →
    s.inputsNow.nmiEdge = false → s.inputsNow.irqLine = true → s.p.i = false →
    ∃ t, step s = .next t ∧ entered { s with inputs := s.inputs.tail } t s.pc false 0xFFFE#16

/-- R312: with P.I set an asserted IRQ line has no effect at all and is not remembered. That the line is an
entry of a list of inputs is the model's choice (log entry 5). -/
def Obligations.MaskedIrqHasNoEffect : Prop :=
  ∀ (s : State) (e : Inputs) (rest : List Inputs), s.inputs = e :: rest → s.p.i = true →
    step s = step { s with inputs := { e with irqLine := false } :: rest }

/-- R27, R56, R316: at a boundary with no stop and no event, if the bytes at PC decode to an instruction, the
step is that instruction's `exec`. The model's choices here: the lines are a list of inputs of which the step
uses up one entry (`inputs.tail`, log entry 5); the bytes given to the decoder are always the three at PC,
of which a shorter instruction ignores the rest (log entry 14); the stop address comes first (log entry 8). -/
def Obligations.StepRunsTheDecodedInstruction : Prop :=
  ∀ (s : State) (i : Instr) (rest : List Byte),
    s.cfg.stopAddress ≠ some s.pc → s.inputsNow.reset = false → s.nmiPending = false →
    s.inputsNow.nmiEdge = false → (s.inputsNow.irqLine = false ∨ s.p.i = true) →
    decode s.cfg [s.readByte s.pc, s.readByte (s.pc + 1#16), s.readByte (s.pc + 2#16)] = .ok (i, rest) →
    step s = exec i { s with inputs := s.inputs.tail }

/-- R321: RTI right after any entry restores PC, SP and all six flags exactly, and leaves every other register
and every byte outside the three that were pushed. That the pushed bytes read back wherever SP points is the
model's choice of plain RAM, option (a) of R59 (log entry 10). -/
def Obligations.RtiUndoesAnEntry : Prop :=
  ∀ (s : State) (ret : Word) (b : Bool) (vector : Word),
    ∃ t, exec .rti (s.takeException ret b vector) = .next t ∧
      t.setMem s.mem = { s with pc := ret } ∧
      ∀ a, a ≠ stackByte s.sp → a ≠ stackByte (s.sp - 1#8) → a ≠ stackByte (s.sp - 2#8) →
        t.readByte a = s.readByte a

/-- R294, R296, R323: CLI and SEI govern the very next boundary: after CLI an asserted IRQ line is taken before
the next instruction, after SEI it has no effect. That the line is asserted at that boundary is an entry of
the model's list of inputs (log entry 5). -/
def Obligations.CliAndSeiActAtTheNextBoundary : Prop :=
  ∀ (s : State) (e : Inputs) (rest : List Inputs), s.inputs = Inputs.idle :: e :: rest →
    s.nmiPending = false → s.cfg.stopAddress = none →
    e.reset = false → e.nmiEdge = false → e.irqLine = true →
    (s.readByte s.pc = 0x58#8 → ∃ t u, step s = .next t ∧ step t = .next u ∧
      entered { s with inputs := rest, p := { s.p with i := false } } u (s.pc + 1#16) false 0xFFFE#16) ∧
    (s.readByte s.pc = 0x78#8 → ∃ t, step s = .next t ∧ t.p.i = true ∧ t.pc = s.pc + 1#16 ∧
      step t = step { t with inputs := { e with irqLine := false } :: rest })

/-- R366: a run ends at `STOP_ADDRESS`, whose instruction is not executed, and no step stops with a fault
anywhere else. That the stop comes before the lines are sampled is the model's choice (log entry 8). -/
def Obligations.RunEndsAtTheStopAddress : Prop :=
  ∀ s : State, (s.cfg.stopAddress = some s.pc → step s = .fault .stopAddressReached) ∧
    ∀ f, step s = .fault f → s.cfg.stopAddress = some s.pc

/-- R90, R91, R278, R310, R366: away from the stop address the machine goes on exactly when an event is taken
or the opcode at PC is none of the four unknown ones, and no instruction faults. The model's choices here: the
lines are a list of inputs, and an NMI edge is taken at the boundary it comes at, which is the disjunct on
`nmiEdge` (log entry 5); the stop address comes first (log entry 8). -/
def Obligations.OnlyUnknownOpcodesEndARun : Prop :=
  (∀ s : State, s.cfg.stopAddress ≠ some s.pc →
    (Safety.goesOn s ↔
      s.inputsNow.reset = true ∨ s.nmiPending = true ∨ s.inputsNow.nmiEdge = true ∨
      (s.inputsNow.irqLine = true ∧ s.p.i = false) ∨ Safety.unknownOpcode (s.readByte s.pc) = false)) ∧
  ∀ (i : Instr) (s : State) (f : Fault), exec i s ≠ .fault f

/-- R24, R33, R318, R364: in any step the base page register changes only by TAB (opcode 5B) or by a RESET
event. That RESET is an entry of the list of inputs is the model's choice (log entry 5). -/
def Obligations.OnlyTabOrResetChangesB : Prop :=
  ∀ s t : State, step s = .next t → t.b ≠ s.b →
    s.inputsNow.reset = true ∨ (s.readByte s.pc = 0x5B#8 ∧ t.b = s.a)

/-- R38, R57: which instructions can change each register and memory. The last four clauses are not of R38 or
R57 but about fields of the model's own, by its choice: only ADC and SBC draw free values (`drawn`, log entry
6), and no instruction changes the list of inputs (`inputs`, with the latch `nmiPending` that only a boundary
sets or clears, log entry 5) or the parameters (`cfg`, log entry 1). -/
def Obligations.RegisterAndMemoryWriters : Prop :=
  ∀ (i : Instr) (s t : State), exec i s = .next t →
    (t.a ≠ s.a → opcodeOf i ∈ aWriters) ∧ (t.x ≠ s.x → opcodeOf i ∈ xWriters) ∧
    (t.y ≠ s.y → opcodeOf i ∈ yWriters) ∧ (t.z ≠ s.z → opcodeOf i ∈ zWriters) ∧
    (t.b ≠ s.b → opcodeOf i ∈ bWriters) ∧ (t.sp ≠ s.sp → opcodeOf i ∈ spWriters) ∧
    (t.mem ≠ s.mem → opcodeOf i ∈ memWriters) ∧
    (t.drawn ≠ s.drawn → ∃ f ∈ adcForms 0#8 0#16 ++ sbcForms 0#8 0#16, opcodeOf i = opcodeOf f.instr) ∧
    t.nmiPending = s.nmiPending ∧ t.inputs = s.inputs ∧ t.cfg = s.cfg

/-- R32: which instructions can change each flag, under every value of the parameters. -/
def Obligations.FlagWriters : Prop :=
  ∀ (i : Instr) (s t : State), exec i s = .next t →
    (t.p.n ≠ s.p.n → opcodeOf i ∈ nFlagWriters ∨ (opcodeOf i = 0x89#8 ∧ s.cfg.bitImmWritesNV = true) ∨
      (opcodeOf i ∈ bitFlagOpcodes ∧ s.cfg.trbTsbFlags = .source)) ∧
    (t.p.v ≠ s.p.v → opcodeOf i ∈ vFlagWriters ∨ (opcodeOf i = 0x89#8 ∧ s.cfg.bitImmWritesNV = true) ∨
      (opcodeOf i ∈ bitFlagOpcodes ∧ s.cfg.trbTsbFlags = .source)) ∧
    (t.p.d ≠ s.p.d → opcodeOf i ∈ dFlagWriters ∧ (opcodeOf i = 0x00#8 → s.cfg.trapClearsD = true)) ∧
    (t.p.i ≠ s.p.i → opcodeOf i ∈ iFlagWriters) ∧
    (t.p.z ≠ s.p.z → opcodeOf i ∈ zFlagWriters) ∧
    (t.p.c ≠ s.p.c → opcodeOf i ∈ cFlagWriters)

/-- R29, R30: the status byte `N V 1 b D I Z C`; pulling it back gives the six flags, and bits 5 and 4 are
discarded. -/
def Obligations.StatusByteLayout : Prop :=
  (∀ (p : Status) (b : Bool),
    (p.pack b).toNat = 128 * one p.n + 64 * one p.v + 32 + 16 * one b + 8 * one p.d + 4 * one p.i +
      2 * one p.z + one p.c) ∧
  (∀ v : Byte, Status.unpack v =
    { n := v.getLsbD 7, v := v.getLsbD 6, d := v.getLsbD 3, i := v.getLsbD 2, z := v.getLsbD 1, c := v.getLsbD 0 }) ∧
  (∀ (p : Status) (b : Bool), Status.unpack (p.pack b) = p) ∧
  ∀ v : Byte, Status.unpack (v ^^^ 0x30#8) = Status.unpack v

/-- R112, R115 to R124: the effective address of every memory mode, as a number. -/
def Obligations.EffectiveAddresses : Prop :=
  ∀ (s : State) (nn : Byte) (nnnn : Word),
    let page (k : Nat) : Nat := 256 * s.b.toNat + k % 256
    let pointer (k : Nat) : Nat := wordAt s (BitVec.ofNat 16 (page k)) (BitVec.ofNat 16 (page (k + 1)))
    let slot : Nat := 0x0100 + s.sp.toNat + nn.toNat
    (s.ea (.bp nn)).toNat = page nn.toNat ∧
    (s.ea (.bpx nn)).toNat = page (nn.toNat + s.x.toNat) ∧
    (s.ea (.bpy nn)).toNat = page (nn.toNat + s.y.toNat) ∧
    (s.ea (.abs nnnn)).toNat = nnnn.toNat ∧
    (s.ea (.absx nnnn)).toNat = (nnnn.toNat + s.x.toNat) % 65536 ∧
    (s.ea (.absy nnnn)).toNat = (nnnn.toNat + s.y.toNat) % 65536 ∧
    (s.ea (.indx nn)).toNat = pointer ((nn.toNat + s.x.toNat) % 256) ∧
    (s.ea (.indz nn)).toNat = (pointer nn.toNat + s.z.toNat) % 65536 ∧
    (s.ea (.indsp nn)).toNat =
      (wordAt s (BitVec.ofNat 16 slot) (BitVec.ofNat 16 (slot + 1)) + s.y.toNat) % 65536 ∧
    (s.ea (.indy nn)).toNat = (pointer nn.toNat + s.y.toNat) % 65536

/-! Loads and stores. -/

/-- R140: every form of LDA loads A, sets N and Z, and changes nothing else. -/
def Obligations.LdaEffect : Prop :=
  ∀ (nn : Byte) (nnnn : Word) (s : State), ∀ f ∈ ldaForms nn nnnn,
    encode f.instr = f.bytes ∧
    exec f.instr s = .next { s with
      a := s.load8 f.operand
      p := nz s.p (s.load8 f.operand)
      pc := s.pc + BitVec.ofNat 16 f.bytes.length }

/-- R141, R142, R143: every form of LDX, LDY, LDZ loads its register, sets N and Z, and changes nothing else. -/
def Obligations.LdxLdyLdzEffect : Prop :=
  ∀ (nn : Byte) (nnnn : Word) (s : State),
    (∀ f ∈ ldxForms nn nnnn, encode f.instr = f.bytes ∧
      exec f.instr s = .next { s with
        x := s.load8 f.operand, p := nz s.p (s.load8 f.operand)
        pc := s.pc + BitVec.ofNat 16 f.bytes.length }) ∧
    (∀ f ∈ ldyForms nn nnnn, encode f.instr = f.bytes ∧
      exec f.instr s = .next { s with
        y := s.load8 f.operand, p := nz s.p (s.load8 f.operand)
        pc := s.pc + BitVec.ofNat 16 f.bytes.length }) ∧
    (∀ f ∈ ldzForms nn nnnn, encode f.instr = f.bytes ∧
      exec f.instr s = .next { s with
        z := s.load8 f.operand, p := nz s.p (s.load8 f.operand)
        pc := s.pc + BitVec.ofNat 16 f.bytes.length })

/-- R144: every form of STA stores A at the effective address; every other byte, register and flag stays. -/
def Obligations.StaEffect : Prop :=
  ∀ (nn : Byte) (nnnn : Word) (s : State), ∀ f ∈ staForms nn nnnn,
    encode f.instr = f.bytes ∧
    ∃ t, exec f.instr s = .next t ∧ storesOne s t (s.ea f.operand) s.a ∧
      t.setMem s.mem = { s with pc := s.pc + BitVec.ofNat 16 f.bytes.length }

/-- R145, R146, R147: every form of STX, STY, STZ stores its register, STZ the Z register; every other byte,
register and flag stays. -/
def Obligations.StxStyStzEffect : Prop :=
  ∀ (nn : Byte) (nnnn : Word) (s : State),
    (∀ f ∈ stxForms nn nnnn, encode f.instr = f.bytes ∧
      ∃ t, exec f.instr s = .next t ∧ storesOne s t (s.ea f.operand) s.x ∧
        t.setMem s.mem = { s with pc := s.pc + BitVec.ofNat 16 f.bytes.length }) ∧
    (∀ f ∈ styForms nn nnnn, encode f.instr = f.bytes ∧
      ∃ t, exec f.instr s = .next t ∧ storesOne s t (s.ea f.operand) s.y ∧
        t.setMem s.mem = { s with pc := s.pc + BitVec.ofNat 16 f.bytes.length }) ∧
    (∀ f ∈ stzForms nn nnnn, encode f.instr = f.bytes ∧
      ∃ t, exec f.instr s = .next t ∧ storesOne s t (s.ea f.operand) s.z ∧
        t.setMem s.mem = { s with pc := s.pc + BitVec.ofNat 16 f.bytes.length })

/-! Transfers and the stack. -/

/-- R160 to R171: every transfer moves its register; N and Z follow except for TAB, TXS and TYS; nothing else
changes. -/
def Obligations.TransferEffect : Prop :=
  ∀ s : State, ∀ r ∈ ([
      (.tax, 0xAA#8, { s with x := s.a, p := nz s.p s.a }),
      (.tay, 0xA8#8, { s with y := s.a, p := nz s.p s.a }),
      (.taz, 0x4B#8, { s with z := s.a, p := nz s.p s.a }),
      (.tab, 0x5B#8, { s with b := s.a }),
      (.tba, 0x7B#8, { s with a := s.b, p := nz s.p s.b }),
      (.txa, 0x8A#8, { s with a := s.x, p := nz s.p s.x }),
      (.tya, 0x98#8, { s with a := s.y, p := nz s.p s.y }),
      (.tza, 0x6B#8, { s with a := s.z, p := nz s.p s.z }),
      (.tsx, 0xBA#8, { s with x := s.sp, p := nz s.p s.sp }),
      (.txs, 0x9A#8, { s with sp := s.x }),
      (.tsy, 0x0B#8, { s with y := s.sp, p := nz s.p s.sp }),
      (.tys, 0x2B#8, { s with sp := s.y })] : List (Instr × Byte × State)),
    encode r.1 = [r.2.1] ∧ exec r.1 s = .next { r.2.2 with pc := s.pc + 1#16 }

/-- R25, R172 to R176: every push stores its byte at `$0100 | SP` and decrements SP modulo 256; PHP pushes the
status byte with b = 1; every other byte, register and flag stays. -/
def Obligations.PushEffect : Prop :=
  ∀ s : State, ∀ r ∈ ([
      (.pha, 0x48#8, s.a), (.php, 0x08#8, s.p.pack true), (.phx, 0xDA#8, s.x), (.phy, 0x5A#8, s.y),
      (.phz, 0xDB#8, s.z)] : List (Instr × Byte × Byte)),
    encode r.1 = [r.2.1] ∧
    ∃ t, exec r.1 s = .next t ∧ storesOne s t (stackByte s.sp) r.2.2 ∧
      t.setMem s.mem = { s with sp := s.sp - 1#8, pc := s.pc + 1#16 }

/-- R177: PHW pushes its word high byte first, an immediate or the word at an address. -/
def Obligations.PushWordEffect : Prop :=
  ∀ (nnnn : Word) (s : State), ∀ r ∈ ([
      (.phwImm16 nnnn, 0xF4#8, nnnn.toNat),
      (.phwAbs nnnn, 0xFC#8, wordAt s nnnn (nnnn + 1#16))] : List (Instr × Byte × Nat)),
    encode r.1 = [r.2.1, loByte nnnn, hiByte nnnn] ∧
    ∃ t, exec r.1 s = .next t ∧
      storesTwo s t (stackByte s.sp) (highByte r.2.2) (stackByte (s.sp - 1#8)) (lowByte r.2.2) ∧
      t.setMem s.mem = { s with sp := s.sp - 2#8, pc := s.pc + 3#16 }

/-- R178 to R182: every pull increments SP modulo 256 and loads the byte there, setting N and Z; PLP loads all
six flags. -/
def Obligations.PullEffect : Prop :=
  ∀ s : State, let v := s.readByte (stackByte (s.sp + 1#8))
    ∀ r ∈ ([
      (.pla, 0x68#8, { s with a := v, p := nz s.p v }),
      (.plp, 0x28#8, { s with p := Status.unpack v }),
      (.plx, 0xFA#8, { s with x := v, p := nz s.p v }),
      (.ply, 0x7A#8, { s with y := v, p := nz s.p v }),
      (.plz, 0xFB#8, { s with z := v, p := nz s.p v })] : List (Instr × Byte × State)),
    encode r.1 = [r.2.1] ∧ exec r.1 s = .next { r.2.2 with sp := s.sp + 1#8, pc := s.pc + 1#16 }

/-! Arithmetic and logic. -/

/-- R190, R191, R193, R214: binary ADC and SBC of every form: the result modulo 256, C the carry or no
borrow, V exactly when the result read as signed differs from the true signed sum or difference. -/
def Obligations.BinaryAdcSbcEffect : Prop :=
  ∀ (nn : Byte) (nnnn : Word) (s : State), s.p.d = false →
    (∀ f ∈ adcForms nn nnnn,
      let m := s.load8 f.operand
      let r := BitVec.ofNat 8 (s.a.toNat + m.toNat + one s.p.c)
      encode f.instr = f.bytes ∧
      exec f.instr s = .next { s with
        a := r
        p := { nz s.p r with
          c := decide (256 ≤ s.a.toNat + m.toNat + one s.p.c)
          v := decide (r.toInt ≠ s.a.toInt + m.toInt + one s.p.c) }
        pc := s.pc + BitVec.ofNat 16 f.bytes.length }) ∧
    (∀ f ∈ sbcForms nn nnnn,
      let m := s.load8 f.operand
      let r := BitVec.ofInt 8 (s.a.toNat - m.toNat - (1 - one s.p.c))
      encode f.instr = f.bytes ∧
      exec f.instr s = .next { s with
        a := r
        p := { nz s.p r with
          c := decide (m.toNat + (1 - one s.p.c) ≤ s.a.toNat)
          v := decide (r.toInt ≠ s.a.toInt - m.toInt - (1 - one s.p.c)) }
        pc := s.pc + BitVec.ofNat 16 f.bytes.length })

/-- R192, R194: decimal ADC and SBC of every form with valid BCD operands: the BCD result, its carry or no
borrow, N and Z from it; V may be anything. That `drawn` may change is the model's count of free values
(log entry 6). -/
def Obligations.DecimalAdcSbcEffect : Prop :=
  ∀ (nn : Byte) (nnnn : Word) (s : State), s.p.d = true → isBcd s.a →
    (∀ f ∈ adcForms nn nnnn, isBcd (s.load8 f.operand) →
      let sum := dec s.a + dec (s.load8 f.operand) + one s.p.c
      ∃ (v : Bool) (k : Nat), exec f.instr s = .next { s with
        a := bcd (sum % 100)
        p := { nz s.p (bcd (sum % 100)) with c := decide (100 ≤ sum), v := v }
        pc := s.pc + BitVec.ofNat 16 f.bytes.length
        drawn := k }) ∧
    (∀ f ∈ sbcForms nn nnnn, isBcd (s.load8 f.operand) →
      let taken := dec (s.load8 f.operand) + (1 - one s.p.c)
      let r := if taken ≤ dec s.a then dec s.a - taken else dec s.a + 100 - taken
      ∃ (v : Bool) (k : Nat), exec f.instr s = .next { s with
        a := bcd r
        p := { nz s.p (bcd r) with c := decide (taken ≤ dec s.a), v := v }
        pc := s.pc + BitVec.ofNat 16 f.bytes.length
        drawn := k })

/-- R192, R194: with an operand that is not valid BCD, decimal ADC and SBC still complete: A, N, V, Z and C may
be anything and everything else is as for any other operand. That `drawn` may change is the model's count of
free values (log entry 6). -/
def Obligations.InvalidBcdStillCompletes : Prop :=
  ∀ (nn : Byte) (nnnn : Word) (s : State), s.p.d = true →
    ∀ f ∈ adcForms nn nnnn ++ sbcForms nn nnnn, ¬ (isBcd s.a ∧ isBcd (s.load8 f.operand)) →
      ∃ (a : Byte) (n v z c : Bool) (k : Nat), exec f.instr s = .next { s with
        a := a
        p := { s.p with n := n, v := v, z := z, c := c }
        pc := s.pc + BitVec.ofNat 16 f.bytes.length
        drawn := k }

/-- R195, R196, R197: AND, ORA, EOR of every form, bit by bit, with N and Z of the result. -/
def Obligations.LogicEffect : Prop :=
  ∀ (nn : Byte) (nnnn : Word) (s : State),
    (∀ f ∈ andForms nn nnnn, let r := s.a &&& s.load8 f.operand
      encode f.instr = f.bytes ∧
      exec f.instr s = .next { s with a := r, p := nz s.p r, pc := s.pc + BitVec.ofNat 16 f.bytes.length }) ∧
    (∀ f ∈ oraForms nn nnnn, let r := s.a ||| s.load8 f.operand
      encode f.instr = f.bytes ∧
      exec f.instr s = .next { s with a := r, p := nz s.p r, pc := s.pc + BitVec.ofNat 16 f.bytes.length }) ∧
    (∀ f ∈ eorForms nn nnnn, let r := s.a ^^^ s.load8 f.operand
      encode f.instr = f.bytes ∧
      exec f.instr s = .next { s with a := r, p := nz s.p r, pc := s.pc + BitVec.ofNat 16 f.bytes.length })

/-- R198 to R201: every compare sets C for an unsigned greater or equal, Z for equal, N from bit 7 of the
difference, and changes nothing else. -/
def Obligations.CompareEffect : Prop :=
  ∀ (nn : Byte) (nnnn : Word) (s : State), ∀ g ∈ ([
      (cmpForms nn nnnn, s.a), (cpxForms nn nnnn, s.x), (cpyForms nn nnnn, s.y), (cpzForms nn nnnn, s.z)] :
        List (List (Form Source) × Byte)),
    ∀ f ∈ g.1, let m := s.load8 f.operand
      encode f.instr = f.bytes ∧
      exec f.instr s = .next { s with
        p := { s.p with
          n := decide (128 ≤ (256 + g.2.toNat - m.toNat) % 256)
          z := decide (g.2.toNat = m.toNat)
          c := decide (m.toNat ≤ g.2.toNat) }
        pc := s.pc + BitVec.ofNat 16 f.bytes.length }

/-- R202: BIT sets Z from `A and M`; N and V from bits 7 and 6 of the operand, except that an immediate leaves
them unless `BIT_IMM_WRITES_NV`. -/
def Obligations.BitEffect : Prop :=
  ∀ (nn : Byte) (nnnn : Word) (s : State), ∀ f ∈ bitForms nn nnnn, let m := s.load8 f.operand
    let writesNV := decide (f.operand ≠ .imm8 nn) || s.cfg.bitImmWritesNV
    encode f.instr = f.bytes ∧
    exec f.instr s = .next { s with
      p := { s.p with
        n := if writesNV then m.getLsbD 7 else s.p.n
        v := if writesNV then m.getLsbD 6 else s.p.v
        z := decide ((s.a &&& m).toNat = 0) }
      pc := s.pc + BitVec.ofNat 16 f.bytes.length }

/-- R203: NEG is two's-complement negation; only N and Z follow. -/
def Obligations.NegEffect : Prop :=
  ∀ s : State, let r := BitVec.ofNat 8 ((256 - s.a.toNat) % 256)
    encode .neg = [0x42#8] ∧ exec .neg s = .next { s with a := r, p := nz s.p r, pc := s.pc + 1#16 }

/-- R204, R205: INC and DEC of every form, modulo 256, N and Z of the result, C and V unchanged. -/
def Obligations.IncDecEffect : Prop :=
  ∀ (nn : Byte) (nnnn : Word) (s : State),
    (∀ f ∈ incForms nn nnnn, let r := BitVec.ofNat 8 ((modified s f.operand).toNat + 1)
      encode f.instr = f.bytes ∧ modifies f.instr f.bytes s r (nz s.p r) f.operand) ∧
    (∀ f ∈ decForms nn nnnn, let r := BitVec.ofNat 8 ((modified s f.operand).toNat + 255)
      encode f.instr = f.bytes ∧ modifies f.instr f.bytes s r (nz s.p r) f.operand)

/-- R206 to R211: INX, INY, INZ, DEX, DEY, DEZ, modulo 256, N and Z of the result. -/
def Obligations.IncDecRegisterEffect : Prop :=
  ∀ s : State, let up (v : Byte) := BitVec.ofNat 8 (v.toNat + 1)
    let down (v : Byte) := BitVec.ofNat 8 (v.toNat + 255)
    ∀ r ∈ ([
      (.inx, 0xE8#8, { s with x := up s.x, p := nz s.p (up s.x) }),
      (.iny, 0xC8#8, { s with y := up s.y, p := nz s.p (up s.y) }),
      (.inz, 0x1B#8, { s with z := up s.z, p := nz s.p (up s.z) }),
      (.dex, 0xCA#8, { s with x := down s.x, p := nz s.p (down s.x) }),
      (.dey, 0x88#8, { s with y := down s.y, p := nz s.p (down s.y) }),
      (.dez, 0x3B#8, { s with z := down s.z, p := nz s.p (down s.z) })] : List (Instr × Byte × State)),
    encode r.1 = [r.2.1] ∧ exec r.1 s = .next { r.2.2 with pc := s.pc + 1#16 }

/-- R212, R213: INW and DEW, in both operand forms, add or subtract 1 modulo 65536; N is bit 15, Z says that
all 16 bits are zero; C is unchanged. -/
def Obligations.IncDecWordEffect : Prop :=
  ∀ (op : WordOperand) (s : State), let lo := (wordAddresses s op).1
    let hi := (wordAddresses s op).2
    ∀ g ∈ ([(.inw op, 0xE3#8, (wordAt s lo hi + 1) % 65536),
            (.dew op, 0xC3#8, (wordAt s lo hi + 65535) % 65536)] : List (Instr × Byte × Nat)),
      encode g.1 = g.2.1 :: encodeWordOperand op ∧
      ∃ t, exec g.1 s = .next t ∧ storesTwo s t lo (lowByte g.2.2) hi (highByte g.2.2) ∧
        t.setMem s.mem = { s with
          p := nz16 s.p (BitVec.ofNat 16 g.2.2)
          pc := s.pc + BitVec.ofNat 16 (1 + (encodeWordOperand op).length) }

/-! Shifts. -/

/-- R220 to R225: ASL, LSR, ROL, ROR, ASR of every form: the result, C the bit shifted out, N and Z of the
result, V unchanged. -/
def Obligations.ShiftEffect : Prop :=
  ∀ (nn : Byte) (nnnn : Word) (s : State), ∀ g ∈ ([
      (aslForms nn nnnn, (fun v => 2 * v), (fun v => v / 128)),
      (lsrForms nn nnnn, (fun v => v / 2), (fun v => v % 2)),
      (rolForms nn nnnn, (fun v => 2 * v + one s.p.c), (fun v => v / 128)),
      (rorForms nn nnnn, (fun v => 128 * one s.p.c + v / 2), (fun v => v % 2)),
      (asrForms nn nnnn, (fun v => 128 * (v / 128) + v / 2), (fun v => v % 2))] :
        List (List (Form Place) × (Nat → Nat) × (Nat → Nat))),
    ∀ f ∈ g.1, let v := (modified s f.operand).toNat
      let r := BitVec.ofNat 8 (g.2.1 v)
      encode f.instr = f.bytes ∧
      modifies f.instr f.bytes s r { nz s.p r with c := decide (g.2.2 v = 1) } f.operand

/-- R225: ASR is a signed division by two that rounds toward minus infinity, and the carry is the remainder. -/
def Obligations.AsrIsSignedHalving : Prop :=
  ∀ s : State, ∃ t, exec .asrAcc s = .next t ∧ s.a.toInt = 2 * t.a.toInt + (one t.p.c : Int) ∧
    t.p.n = s.a.getLsbD 7

/-- R226, R227: ASW shifts the word at an address left; ROW rotates it right through the carry; N, Z and C by
the 16-bit result and the bit shifted out. -/
def Obligations.WordShiftEffect : Prop :=
  ∀ (nnnn : Word) (s : State), let w := wordAt s nnnn (nnnn + 1#16)
    ∀ g ∈ ([(.asw nnnn, 0xCB#8, 2 * w % 65536, w / 32768),
            (.row nnnn, 0xEB#8, 32768 * one s.p.c + w / 2, w % 2)] : List (Instr × Byte × Nat × Nat)),
      encode g.1 = [g.2.1, loByte nnnn, hiByte nnnn] ∧
      ∃ t, exec g.1 s = .next t ∧
        storesTwo s t nnnn (lowByte g.2.2.1) (nnnn + 1#16) (highByte g.2.2.1) ∧
        t.setMem s.mem = { s with
          p := { nz16 s.p (BitVec.ofNat 16 g.2.2.1) with c := decide (g.2.2.2 = 1) }
          pc := s.pc + 3#16 }

/-! Bit operations. -/

/-- R240, R241: TRB and TSB of both forms clear or set the bits of A in the byte; N, V, Z of the stored byte
under `source`, only Z of `A and M` under `wdc65c02`. -/
def Obligations.TrbTsbEffect : Prop :=
  ∀ (nn : Byte) (nnnn : Word) (s : State), ∀ g ∈ ([
      (trbForms nn nnnn, (fun m => m &&& ~~~s.a)), (tsbForms nn nnnn, (fun m => m ||| s.a))] :
        List (List (Form MemOperand) × (Byte → Byte))),
    ∀ f ∈ g.1, let m := s.readByte (s.ea f.operand)
      let r := g.2 m
      encode f.instr = f.bytes ∧
      ∃ t, exec f.instr s = .next t ∧ storesOne s t (s.ea f.operand) r ∧
        t.setMem s.mem = { s with
          p := if s.cfg.trbTsbFlags = .source
            then { nz s.p r with v := r.getLsbD 6 }
            else { s.p with z := decide ((s.a &&& m).toNat = 0) }
          pc := s.pc + BitVec.ofNat 16 f.bytes.length }

/-- R242, R243: RMBi clears and SMBi sets bit i of the base-page byte; its other bits, every other byte, every
register and flag stay. -/
def Obligations.RmbSmbEffect : Prop :=
  ∀ (nn : Byte) (s : State), ∀ g ∈ ([(rmbs nn, false), (smbs nn, true)] : List (List Instr × Bool)),
    ∀ r ∈ g.1.zipIdx, encode r.1 = [BitVec.ofNat 8 (16 * r.2 + if g.2 then 0x87 else 0x07), nn] ∧
      ∃ t, exec r.1 s = .next t ∧
      (∀ j, j < 8 → (t.readByte (s.bpAddr nn)).getLsbD j =
        if j = r.2 then g.2 else (s.readByte (s.bpAddr nn)).getLsbD j) ∧
      (∀ a, a ≠ s.bpAddr nn → t.readByte a = s.readByte a) ∧
      t.setMem s.mem = { s with pc := s.pc + 2#16 }

/-- R127, R244, R245: BBRi and BBSi branch when bit i of the base-page byte is clear or set, by a signed
displacement from the next instruction, modulo 65536; nothing else changes. -/
def Obligations.BbrBbsEffect : Prop :=
  ∀ (nn dd : Byte) (s : State), ∀ g ∈ ([(bbrs nn dd, false), (bbss nn dd, true)] : List (List Instr × Bool)),
    ∀ r ∈ g.1.zipIdx, encode r.1 = [BitVec.ofNat 8 (16 * r.2 + if g.2 then 0x8F else 0x0F), nn, dd] ∧
    exec r.1 s = .next { s with
      pc := if (s.readByte (s.bpAddr nn)).getLsbD r.2 = g.2
        then BitVec.ofInt 16 (s.pc.toNat + 3 + dd.toInt) else BitVec.ofNat 16 (s.pc.toNat + 3) }

/-! Control transfer. -/

/-- R125, R126, R260 to R269: the conditional branches and BRA, in both forms; the 16-bit opcode is the 8-bit
one plus 3; nothing but the PC changes. -/
def Obligations.BranchEffect : Prop :=
  ∀ (dd : Byte) (dddd : Word) (s : State), ∀ r ∈ branches s dd dddd,
    encode r.1 = [r.2.1, dd] ∧ encode r.2.2.1 = [r.2.1 + 3#8, loByte dddd, hiByte dddd] ∧
    exec r.1 s = .next { s with
      pc := if r.2.2.2.2 then BitVec.ofInt 16 (s.pc.toNat + 2 + dd.toInt)
        else BitVec.ofNat 16 (s.pc.toNat + 2) } ∧
    exec r.2.2.1 s = .next { s with
      pc := if r.2.2.2.2
        then BitVec.ofNat 16 (s.pc.toNat + (if s.cfg.rel16Base = .two then 2 else 3) + dddd.toNat)
        else BitVec.ofNat 16 (s.pc.toNat + 3) }

/-- R270: BSR pushes the address of its own last byte and goes to `PC + REL16_BASE + dddd`. -/
def Obligations.BsrEffect : Prop :=
  ∀ (dddd : Word) (s : State), encode (.bsr dddd) = [0x63#8, loByte dddd, hiByte dddd] ∧
    ∃ t, exec (.bsr dddd) s = .next t ∧
      called s t (BitVec.ofNat 16
        (s.pc.toNat + (if s.cfg.rel16Base = .two then 2 else 3) + dddd.toNat))

/-- R271: JMP in its three forms; the pointer's second byte is at the next address, with carry into the high
address byte. -/
def Obligations.JmpEffect : Prop :=
  ∀ (nnnn : Word) (s : State), let p := BitVec.ofNat 16 (nnnn.toNat + s.x.toNat)
    ∀ r ∈ ([(.jmpAbs nnnn, 0x4C#8, nnnn.toNat),
            (.jmpAbsInd nnnn, 0x6C#8, wordAt s nnnn (nnnn + 1#16)),
            (.jmpAbsxInd nnnn, 0x7C#8, wordAt s p (p + 1#16))] : List (Instr × Byte × Nat)),
      encode r.1 = [r.2.1, loByte nnnn, hiByte nnnn] ∧
      exec r.1 s = .next { s with pc := BitVec.ofNat 16 r.2.2 }

/-- R272: JSR in its three forms: the target is read before the return address is pushed. -/
def Obligations.JsrEffect : Prop :=
  ∀ (nnnn : Word) (s : State), let p := BitVec.ofNat 16 (nnnn.toNat + s.x.toNat)
    ∀ r ∈ ([(.jsrAbs nnnn, 0x20#8, nnnn.toNat),
            (.jsrAbsInd nnnn, 0x22#8, wordAt s nnnn (nnnn + 1#16)),
            (.jsrAbsxInd nnnn, 0x23#8, wordAt s p (p + 1#16))] : List (Instr × Byte × Nat)),
      encode r.1 = [r.2.1, loByte nnnn, hiByte nnnn] ∧
      ∃ t, exec r.1 s = .next t ∧ called s t (BitVec.ofNat 16 r.2.2)

/-- R273: RTS pulls the address, low byte first, adds 1 and raises SP by 2; nothing else changes. -/
def Obligations.RtsEffect : Prop :=
  ∀ s : State, encode .rts = [0x60#8] ∧
    exec .rts s = .next { s with
      sp := s.sp + 2#8
      pc := BitVec.ofNat 16 (wordAt s (stackByte (s.sp + 1#8)) (stackByte (s.sp + 2#8)) + 1) }

/-- R270, R272, R273, R274: RTS right after any JSR or BSR continues after the call with SP as before it. That
the pushed bytes read back wherever SP points is the model's choice of plain RAM, option (a) of R59 (log
entry 10). -/
def Obligations.RtsReturnsFromAnyCall : Prop :=
  ∀ (nnnn : Word) (s : State), ∀ i ∈ [.jsrAbs nnnn, .jsrAbsInd nnnn, .jsrAbsxInd nnnn, .bsr nnnn],
    ∃ t u, exec i s = .next t ∧ exec .rts t = .next u ∧ u.pc = s.pc + 3#16 ∧ u.sp = s.sp ∧ u.p = s.p

/-- R276: RTI pulls the flags, then the PC, low byte first, with nothing added, and raises SP by 3. -/
def Obligations.RtiEffect : Prop :=
  ∀ s : State, encode .rti = [0x40#8] ∧
    exec .rti s = .next { s with
      sp := s.sp + 3#8
      p := Status.unpack (s.readByte (stackByte (s.sp + 1#8)))
      pc := BitVec.ofNat 16 (wordAt s (stackByte (s.sp + 2#8)) (stackByte (s.sp + 3#8))) }

/-- R277, R319: BRK enters through `$FFFE` with b = 1 and the address of BRK plus 2, whatever P.I is. -/
def Obligations.BrkEffect : Prop :=
  ∀ s : State, encode .brk = [0x00#8] ∧
    ∃ t, exec .brk s = .next t ∧ entered s t (s.pc + 2#16) true 0xFFFE#16

/-! Flag and system instructions. -/

/-- R290 to R294, R296, R297, R299: the flag instructions write their one flag, NOP writes none; nothing but
the PC changes besides. -/
def Obligations.FlagInstructionEffect : Prop :=
  ∀ s : State, ∀ r ∈ ([
      (.clc, 0x18#8, { s.p with c := false }), (.sec, 0x38#8, { s.p with c := true }),
      (.cld, 0xD8#8, { s.p with d := false }), (.sed, 0xF8#8, { s.p with d := true }),
      (.cli, 0x58#8, { s.p with i := false }), (.sei, 0x78#8, { s.p with i := true }),
      (.clv, 0xB8#8, { s.p with v := false }), (.nop, 0xEA#8, s.p)] : List (Instr × Byte × Status)),
    encode r.1 = [r.2.1] ∧ exec r.1 s = .next { s with p := r.2.2, pc := s.pc + 1#16 }

/-- R275, R295, R298, R300: the four instructions whose operation is unknown are refused, each by name, in
every state. -/
def Obligations.UnknownInstructionsAreRefused : Prop :=
  ∀ (nn : Byte) (s : State),
    encode .cle = [0x02#8] ∧ exec .cle s = .refused .cleUnknown ∧
    encode .see = [0x03#8] ∧ exec .see s = .refused .seeUnknown ∧
    encode .map = [0x5C#8] ∧ exec .map s = .refused .mapUnknown ∧
    encode (.rtsImm nn) = [0x62#8, nn] ∧ exec (.rtsImm nn) s = .refused .rtsImmUnknown
end

