-- ==== Sys2Proof/Laws/State.lean ====
section
/-! SUPPORT. The small lemmas of the named updates of State: one for each field and each update. -/

namespace Sys2Proof.Machine

section
variable (s : State) (v : Byte)
@[simp] theorem State.setA_a : (s.setA v).a = v := rfl
@[simp] theorem State.setA_x : (s.setA v).x = s.x := rfl
@[simp] theorem State.setA_y : (s.setA v).y = s.y := rfl
@[simp] theorem State.setA_z : (s.setA v).z = s.z := rfl
@[simp] theorem State.setA_b : (s.setA v).b = s.b := rfl
@[simp] theorem State.setA_sp : (s.setA v).sp = s.sp := rfl
@[simp] theorem State.setA_pc : (s.setA v).pc = s.pc := rfl
@[simp] theorem State.setA_p : (s.setA v).p = s.p := rfl
@[simp] theorem State.setA_nmiPending : (s.setA v).nmiPending = s.nmiPending := rfl
@[simp] theorem State.setA_mem : (s.setA v).mem = s.mem := rfl
@[simp] theorem State.setA_inputs : (s.setA v).inputs = s.inputs := rfl
@[simp] theorem State.setA_drawn : (s.setA v).drawn = s.drawn := rfl
@[simp] theorem State.setA_cfg : (s.setA v).cfg = s.cfg := rfl
end

section
variable (s : State) (v : Byte)
@[simp] theorem State.setX_a : (s.setX v).a = s.a := rfl
@[simp] theorem State.setX_x : (s.setX v).x = v := rfl
@[simp] theorem State.setX_y : (s.setX v).y = s.y := rfl
@[simp] theorem State.setX_z : (s.setX v).z = s.z := rfl
@[simp] theorem State.setX_b : (s.setX v).b = s.b := rfl
@[simp] theorem State.setX_sp : (s.setX v).sp = s.sp := rfl
@[simp] theorem State.setX_pc : (s.setX v).pc = s.pc := rfl
@[simp] theorem State.setX_p : (s.setX v).p = s.p := rfl
@[simp] theorem State.setX_nmiPending : (s.setX v).nmiPending = s.nmiPending := rfl
@[simp] theorem State.setX_mem : (s.setX v).mem = s.mem := rfl
@[simp] theorem State.setX_inputs : (s.setX v).inputs = s.inputs := rfl
@[simp] theorem State.setX_drawn : (s.setX v).drawn = s.drawn := rfl
@[simp] theorem State.setX_cfg : (s.setX v).cfg = s.cfg := rfl
end

section
variable (s : State) (v : Byte)
@[simp] theorem State.setY_a : (s.setY v).a = s.a := rfl
@[simp] theorem State.setY_x : (s.setY v).x = s.x := rfl
@[simp] theorem State.setY_y : (s.setY v).y = v := rfl
@[simp] theorem State.setY_z : (s.setY v).z = s.z := rfl
@[simp] theorem State.setY_b : (s.setY v).b = s.b := rfl
@[simp] theorem State.setY_sp : (s.setY v).sp = s.sp := rfl
@[simp] theorem State.setY_pc : (s.setY v).pc = s.pc := rfl
@[simp] theorem State.setY_p : (s.setY v).p = s.p := rfl
@[simp] theorem State.setY_nmiPending : (s.setY v).nmiPending = s.nmiPending := rfl
@[simp] theorem State.setY_mem : (s.setY v).mem = s.mem := rfl
@[simp] theorem State.setY_inputs : (s.setY v).inputs = s.inputs := rfl
@[simp] theorem State.setY_drawn : (s.setY v).drawn = s.drawn := rfl
@[simp] theorem State.setY_cfg : (s.setY v).cfg = s.cfg := rfl
end

section
variable (s : State) (v : Byte)
@[simp] theorem State.setZ_a : (s.setZ v).a = s.a := rfl
@[simp] theorem State.setZ_x : (s.setZ v).x = s.x := rfl
@[simp] theorem State.setZ_y : (s.setZ v).y = s.y := rfl
@[simp] theorem State.setZ_z : (s.setZ v).z = v := rfl
@[simp] theorem State.setZ_b : (s.setZ v).b = s.b := rfl
@[simp] theorem State.setZ_sp : (s.setZ v).sp = s.sp := rfl
@[simp] theorem State.setZ_pc : (s.setZ v).pc = s.pc := rfl
@[simp] theorem State.setZ_p : (s.setZ v).p = s.p := rfl
@[simp] theorem State.setZ_nmiPending : (s.setZ v).nmiPending = s.nmiPending := rfl
@[simp] theorem State.setZ_mem : (s.setZ v).mem = s.mem := rfl
@[simp] theorem State.setZ_inputs : (s.setZ v).inputs = s.inputs := rfl
@[simp] theorem State.setZ_drawn : (s.setZ v).drawn = s.drawn := rfl
@[simp] theorem State.setZ_cfg : (s.setZ v).cfg = s.cfg := rfl
end

section
variable (s : State) (v : Byte)
@[simp] theorem State.setB_a : (s.setB v).a = s.a := rfl
@[simp] theorem State.setB_x : (s.setB v).x = s.x := rfl
@[simp] theorem State.setB_y : (s.setB v).y = s.y := rfl
@[simp] theorem State.setB_z : (s.setB v).z = s.z := rfl
@[simp] theorem State.setB_b : (s.setB v).b = v := rfl
@[simp] theorem State.setB_sp : (s.setB v).sp = s.sp := rfl
@[simp] theorem State.setB_pc : (s.setB v).pc = s.pc := rfl
@[simp] theorem State.setB_p : (s.setB v).p = s.p := rfl
@[simp] theorem State.setB_nmiPending : (s.setB v).nmiPending = s.nmiPending := rfl
@[simp] theorem State.setB_mem : (s.setB v).mem = s.mem := rfl
@[simp] theorem State.setB_inputs : (s.setB v).inputs = s.inputs := rfl
@[simp] theorem State.setB_drawn : (s.setB v).drawn = s.drawn := rfl
@[simp] theorem State.setB_cfg : (s.setB v).cfg = s.cfg := rfl
end

section
variable (s : State) (v : Byte)
@[simp] theorem State.setSp_a : (s.setSp v).a = s.a := rfl
@[simp] theorem State.setSp_x : (s.setSp v).x = s.x := rfl
@[simp] theorem State.setSp_y : (s.setSp v).y = s.y := rfl
@[simp] theorem State.setSp_z : (s.setSp v).z = s.z := rfl
@[simp] theorem State.setSp_b : (s.setSp v).b = s.b := rfl
@[simp] theorem State.setSp_sp : (s.setSp v).sp = v := rfl
@[simp] theorem State.setSp_pc : (s.setSp v).pc = s.pc := rfl
@[simp] theorem State.setSp_p : (s.setSp v).p = s.p := rfl
@[simp] theorem State.setSp_nmiPending : (s.setSp v).nmiPending = s.nmiPending := rfl
@[simp] theorem State.setSp_mem : (s.setSp v).mem = s.mem := rfl
@[simp] theorem State.setSp_inputs : (s.setSp v).inputs = s.inputs := rfl
@[simp] theorem State.setSp_drawn : (s.setSp v).drawn = s.drawn := rfl
@[simp] theorem State.setSp_cfg : (s.setSp v).cfg = s.cfg := rfl
end

section
variable (s : State) (v : Word)
@[simp] theorem State.setPc_a : (s.setPc v).a = s.a := rfl
@[simp] theorem State.setPc_x : (s.setPc v).x = s.x := rfl
@[simp] theorem State.setPc_y : (s.setPc v).y = s.y := rfl
@[simp] theorem State.setPc_z : (s.setPc v).z = s.z := rfl
@[simp] theorem State.setPc_b : (s.setPc v).b = s.b := rfl
@[simp] theorem State.setPc_sp : (s.setPc v).sp = s.sp := rfl
@[simp] theorem State.setPc_pc : (s.setPc v).pc = v := rfl
@[simp] theorem State.setPc_p : (s.setPc v).p = s.p := rfl
@[simp] theorem State.setPc_nmiPending : (s.setPc v).nmiPending = s.nmiPending := rfl
@[simp] theorem State.setPc_mem : (s.setPc v).mem = s.mem := rfl
@[simp] theorem State.setPc_inputs : (s.setPc v).inputs = s.inputs := rfl
@[simp] theorem State.setPc_drawn : (s.setPc v).drawn = s.drawn := rfl
@[simp] theorem State.setPc_cfg : (s.setPc v).cfg = s.cfg := rfl
end

section
variable (s : State) (v : Status)
@[simp] theorem State.setP_a : (s.setP v).a = s.a := rfl
@[simp] theorem State.setP_x : (s.setP v).x = s.x := rfl
@[simp] theorem State.setP_y : (s.setP v).y = s.y := rfl
@[simp] theorem State.setP_z : (s.setP v).z = s.z := rfl
@[simp] theorem State.setP_b : (s.setP v).b = s.b := rfl
@[simp] theorem State.setP_sp : (s.setP v).sp = s.sp := rfl
@[simp] theorem State.setP_pc : (s.setP v).pc = s.pc := rfl
@[simp] theorem State.setP_p : (s.setP v).p = v := rfl
@[simp] theorem State.setP_nmiPending : (s.setP v).nmiPending = s.nmiPending := rfl
@[simp] theorem State.setP_mem : (s.setP v).mem = s.mem := rfl
@[simp] theorem State.setP_inputs : (s.setP v).inputs = s.inputs := rfl
@[simp] theorem State.setP_drawn : (s.setP v).drawn = s.drawn := rfl
@[simp] theorem State.setP_cfg : (s.setP v).cfg = s.cfg := rfl
end

section
variable (s : State) (v : Bool)
@[simp] theorem State.setNmiPending_a : (s.setNmiPending v).a = s.a := rfl
@[simp] theorem State.setNmiPending_x : (s.setNmiPending v).x = s.x := rfl
@[simp] theorem State.setNmiPending_y : (s.setNmiPending v).y = s.y := rfl
@[simp] theorem State.setNmiPending_z : (s.setNmiPending v).z = s.z := rfl
@[simp] theorem State.setNmiPending_b : (s.setNmiPending v).b = s.b := rfl
@[simp] theorem State.setNmiPending_sp : (s.setNmiPending v).sp = s.sp := rfl
@[simp] theorem State.setNmiPending_pc : (s.setNmiPending v).pc = s.pc := rfl
@[simp] theorem State.setNmiPending_p : (s.setNmiPending v).p = s.p := rfl
@[simp] theorem State.setNmiPending_nmiPending : (s.setNmiPending v).nmiPending = v := rfl
@[simp] theorem State.setNmiPending_mem : (s.setNmiPending v).mem = s.mem := rfl
@[simp] theorem State.setNmiPending_inputs : (s.setNmiPending v).inputs = s.inputs := rfl
@[simp] theorem State.setNmiPending_drawn : (s.setNmiPending v).drawn = s.drawn := rfl
@[simp] theorem State.setNmiPending_cfg : (s.setNmiPending v).cfg = s.cfg := rfl
end

section
variable (s : State) (v : Memory)
@[simp] theorem State.setMem_a : (s.setMem v).a = s.a := rfl
@[simp] theorem State.setMem_x : (s.setMem v).x = s.x := rfl
@[simp] theorem State.setMem_y : (s.setMem v).y = s.y := rfl
@[simp] theorem State.setMem_z : (s.setMem v).z = s.z := rfl
@[simp] theorem State.setMem_b : (s.setMem v).b = s.b := rfl
@[simp] theorem State.setMem_sp : (s.setMem v).sp = s.sp := rfl
@[simp] theorem State.setMem_pc : (s.setMem v).pc = s.pc := rfl
@[simp] theorem State.setMem_p : (s.setMem v).p = s.p := rfl
@[simp] theorem State.setMem_nmiPending : (s.setMem v).nmiPending = s.nmiPending := rfl
@[simp] theorem State.setMem_mem : (s.setMem v).mem = v := rfl
@[simp] theorem State.setMem_inputs : (s.setMem v).inputs = s.inputs := rfl
@[simp] theorem State.setMem_drawn : (s.setMem v).drawn = s.drawn := rfl
@[simp] theorem State.setMem_cfg : (s.setMem v).cfg = s.cfg := rfl
end

section
variable (s : State) (v : List Inputs)
@[simp] theorem State.setInputs_a : (s.setInputs v).a = s.a := rfl
@[simp] theorem State.setInputs_x : (s.setInputs v).x = s.x := rfl
@[simp] theorem State.setInputs_y : (s.setInputs v).y = s.y := rfl
@[simp] theorem State.setInputs_z : (s.setInputs v).z = s.z := rfl
@[simp] theorem State.setInputs_b : (s.setInputs v).b = s.b := rfl
@[simp] theorem State.setInputs_sp : (s.setInputs v).sp = s.sp := rfl
@[simp] theorem State.setInputs_pc : (s.setInputs v).pc = s.pc := rfl
@[simp] theorem State.setInputs_p : (s.setInputs v).p = s.p := rfl
@[simp] theorem State.setInputs_nmiPending : (s.setInputs v).nmiPending = s.nmiPending := rfl
@[simp] theorem State.setInputs_mem : (s.setInputs v).mem = s.mem := rfl
@[simp] theorem State.setInputs_inputs : (s.setInputs v).inputs = v := rfl
@[simp] theorem State.setInputs_drawn : (s.setInputs v).drawn = s.drawn := rfl
@[simp] theorem State.setInputs_cfg : (s.setInputs v).cfg = s.cfg := rfl
end

section
variable (s : State) (v : Nat)
@[simp] theorem State.setDrawn_a : (s.setDrawn v).a = s.a := rfl
@[simp] theorem State.setDrawn_x : (s.setDrawn v).x = s.x := rfl
@[simp] theorem State.setDrawn_y : (s.setDrawn v).y = s.y := rfl
@[simp] theorem State.setDrawn_z : (s.setDrawn v).z = s.z := rfl
@[simp] theorem State.setDrawn_b : (s.setDrawn v).b = s.b := rfl
@[simp] theorem State.setDrawn_sp : (s.setDrawn v).sp = s.sp := rfl
@[simp] theorem State.setDrawn_pc : (s.setDrawn v).pc = s.pc := rfl
@[simp] theorem State.setDrawn_p : (s.setDrawn v).p = s.p := rfl
@[simp] theorem State.setDrawn_nmiPending : (s.setDrawn v).nmiPending = s.nmiPending := rfl
@[simp] theorem State.setDrawn_mem : (s.setDrawn v).mem = s.mem := rfl
@[simp] theorem State.setDrawn_inputs : (s.setDrawn v).inputs = s.inputs := rfl
@[simp] theorem State.setDrawn_drawn : (s.setDrawn v).drawn = v := rfl
@[simp] theorem State.setDrawn_cfg : (s.setDrawn v).cfg = s.cfg := rfl
end

/-- Two states with the same fields are the same state. -/
theorem State.eq_of_fields {s t : State} (ha : s.a = t.a) (hx : s.x = t.x) (hy : s.y = t.y) (hz : s.z = t.z)
    (hb : s.b = t.b) (hsp : s.sp = t.sp) (hpc : s.pc = t.pc) (hp : s.p = t.p)
    (hn : s.nmiPending = t.nmiPending) (hm : s.mem = t.mem) (hi : s.inputs = t.inputs)
    (hd : s.drawn = t.drawn) (hc : s.cfg = t.cfg) : s = t := by
  cases s; cases t; simp_all

end Sys2Proof.Machine
end

