-- ==== Sys2Proof/Laws/Ops.lean ====
section
/-! SUPPORT. For each shared operation one lemma that says all it does, as one record, and what a byte of
memory reads as after it. -/

namespace Sys2Proof.Machine

/-! Flags. -/

theorem State.setNZ_eq (s : State) (v : Byte) :
    s.setNZ v = { s with p := { s.p with n := v.getLsbD 7, z := decide (v = 0#8) } } := rfl

theorem State.setNZ16_eq (s : State) (v : Word) :
    s.setNZ16 v = { s with p := { s.p with n := v.getLsbD 15, z := decide (v = 0#16) } } := rfl

theorem State.setC_eq (s : State) (f : Bool) : s.setC f = { s with p := { s.p with c := f } } := rfl
theorem State.setV_eq (s : State) (f : Bool) : s.setV f = { s with p := { s.p with v := f } } := rfl
theorem State.setD_eq (s : State) (f : Bool) : s.setD f = { s with p := { s.p with d := f } } := rfl
theorem State.setI_eq (s : State) (f : Bool) : s.setI f = { s with p := { s.p with i := f } } := rfl

theorem State.compare_eq (s : State) (r m : Byte) :
    s.compare r m = { s with p := { s.p with
      n := (r - m).getLsbD 7, z := decide (r = m), c := decide (m.toNat ≤ r.toNat) } } := rfl

theorem State.advance_eq (s : State) (len : Nat) :
    s.advance len = { s with pc := s.pc + BitVec.ofNat 16 len } := rfl

/-! Memory. -/

theorem State.writeByte_eq (s : State) (a : Word) (v : Byte) :
    s.writeByte a v = { s with mem := s.mem.writeByte a v } := rfl

theorem State.writeWord_eq (s : State) (a : Word) (v : Word) :
    s.writeWord a v = { s with mem := (s.mem.writeByte a (loByte v)).writeByte (a + 1#16) (hiByte v) } := rfl

@[simp] theorem State.readByte_writeByte (s : State) (a b : Word) (v : Byte) :
    (s.writeByte a v).readByte b = if b = a then v else s.readByte b :=
  Memory.readByte_writeByte s.mem a b v

/-- Reading depends on the memory alone. -/
theorem State.readByte_congr {s t : State} (h : s.mem = t.mem) (a : Word) : s.readByte a = t.readByte a := by
  simp only [State.readByte, h]

/-- The two bytes of a word lie at different addresses, even across the wrap at `$FFFF` (R54). -/
theorem succ_ne_self (a : Word) : a + 1#16 ≠ a := by
  intro h
  have := congrArg BitVec.toNat h
  simp only [BitVec.toNat_add, BitVec.toNat_ofNat] at this
  have := a.isLt
  omega

/-! The stack. -/

theorem State.push_eq (s : State) (v : Byte) :
    s.push v = { s with mem := s.mem.writeByte (joinBytes 0x01#8 s.sp) v, sp := s.sp - 1#8 } := rfl

theorem State.pushWord_eq (s : State) (w : Word) :
    s.pushWord w = { s with
      mem := (s.mem.writeByte (joinBytes 0x01#8 s.sp) (hiByte w)).writeByte
        (joinBytes 0x01#8 (s.sp - 1#8)) (loByte w)
      sp := s.sp - 1#8 - 1#8 } := rfl

theorem State.pulled_eq (s : State) : s.pulled = s.readByte (joinBytes 0x01#8 (s.sp + 1#8)) := rfl

theorem State.afterPull_eq (s : State) : s.afterPull = { s with sp := s.sp + 1#8 } := rfl

theorem State.pulledWord_eq (s : State) :
    s.pulledWord = joinBytes (s.readByte (joinBytes 0x01#8 (s.sp + 1#8 + 1#8)))
      (s.readByte (joinBytes 0x01#8 (s.sp + 1#8))) := rfl

theorem State.afterPullWord_eq (s : State) : s.afterPullWord = { s with sp := s.sp + 1#8 + 1#8 } := rfl

/-- Stack addresses are equal exactly when the stack pointers are: the stack stays in page `$01` (R25). -/
theorem stackAddr_inj {p q : Byte} : joinBytes 0x01#8 p = joinBytes 0x01#8 q ↔ p = q := by
  simp [joinBytes_inj]

/-! Taking an exception and returning from one. -/

theorem State.takeException_eq (s : State) (ret : Word) (b : Bool) (vector : Word) :
    s.takeException ret b vector =
      { ((s.pushWord ret).push (s.p.pack b)) with
        p := { s.p with i := true, d := if s.cfg.trapClearsD then false else s.p.d }
        pc := ((s.pushWord ret).push (s.p.pack b)).readWord vector } := rfl

theorem State.returnFromException_eq (s : State) :
    s.returnFromException = { s with
      sp := s.sp + 1#8 + 1#8 + 1#8
      p := Status.unpack (s.readByte (joinBytes 0x01#8 (s.sp + 1#8)))
      pc := joinBytes (s.readByte (joinBytes 0x01#8 (s.sp + 1#8 + 1#8 + 1#8)))
        (s.readByte (joinBytes 0x01#8 (s.sp + 1#8 + 1#8))) } := rfl

/-- The status byte loses no flag (R29, R30). -/
theorem Status.unpack_pack (p : Status) (b : Bool) : Status.unpack (p.pack b) = p := by
  obtain ⟨n, v, d, i, z, c⟩ := p
  revert n v d i z c b
  decide

/-! Operands. -/

@[simp] theorem State.toNat_bpAddr (s : State) (nn : Byte) :
    (s.bpAddr nn).toNat = 256 * s.b.toNat + nn.toNat := toNat_joinBytes _ _

theorem State.store8_acc (s : State) (v : Byte) : s.store8 .acc v = { s with a := v } := rfl

theorem State.store8_mem (s : State) (m : MemOperand) (v : Byte) :
    s.store8 (.mem m) v = { s with mem := s.mem.writeByte (s.ea m) v } := rfl

theorem State.store16_abs (s : State) (a : Word) (v : Word) :
    s.store16 (.abs a) v = { s with mem := (s.mem.writeByte a (loByte v)).writeByte (a + 1#16) (hiByte v) } := rfl

theorem State.store16_bp (s : State) (nn : Byte) (v : Word) :
    s.store16 (.bp nn) v = { s with mem :=
      (s.mem.writeByte (s.bpAddr nn) (loByte v)).writeByte (s.bpAddr (nn + 1#8)) (hiByte v) } := rfl

/-- Both stores of a word keep the canonical form. -/
theorem State.wf_store16 {s : State} (h : s.mem.wf) (op : WordOperand) (v : Word) : (s.store16 op v).mem.wf := by
  cases op <;> exact Memory.wf_writeByte (Memory.wf_writeByte h _ _) _ _

/-- A store of a byte keeps the canonical form. -/
theorem State.wf_store8 {s : State} (h : s.mem.wf) (o : Place) (v : Byte) : (s.store8 o v).mem.wf := by
  cases o
  · exact h
  · exact Memory.wf_writeByte h _ _

/-- A push keeps the canonical form. -/
theorem State.wf_push {s : State} (h : s.mem.wf) (v : Byte) : (s.push v).mem.wf :=
  Memory.wf_writeByte h _ _

/-- Two pushes keep the canonical form. -/
theorem State.wf_pushWord {s : State} (h : s.mem.wf) (w : Word) : (s.pushWord w).mem.wf :=
  State.wf_push (State.wf_push h _) _

/-- Taking an exception keeps the canonical form. -/
theorem State.wf_takeException {s : State} (h : s.mem.wf) (ret : Word) (b : Bool) (vector : Word) :
    (s.takeException ret b vector).mem.wf := by
  have hp := State.wf_push (State.wf_pushWord h ret) (s.p.pack b)
  rw [State.takeException_eq]
  exact hp

end Sys2Proof.Machine
end

