-- ==== Sys2Proof/Laws/Stack.lean ====
section
/-! SUPPORT. The stack and the exception entry as flat records: SP lower by 2 or 3, the bytes in page `$01`,
and what every byte reads as after them. Proofs about calls, entries and returns cite these and unfold no push. -/

namespace Sys2Proof.Machine

/-! Stack pointers, modulo 256 (R25). -/

theorem sp_sub_one_one (p : Byte) : p - 1#8 - 1#8 = p - 2#8 := by rw [BitVec.sub_sub]; rfl
theorem sp_sub_two_one (p : Byte) : p - 2#8 - 1#8 = p - 3#8 := by rw [BitVec.sub_sub]; rfl
theorem sp_add_one_one (p : Byte) : p + 1#8 + 1#8 = p + 2#8 := by rw [BitVec.add_assoc]; rfl
theorem sp_add_two_one (p : Byte) : p + 2#8 + 1#8 = p + 3#8 := by rw [BitVec.add_assoc]; rfl

/-- The three bytes of an entry lie at three stack pointers. -/
theorem sp_three_ne (p : Byte) : p ≠ p - 1#8 ∧ p ≠ p - 2#8 ∧ p - 1#8 ≠ p - 2#8 := by
  revert p; decide +kernel

/-! Two stores, and what reads after them. -/

/-- Two stores to different addresses, read back in the order of the addresses. -/
theorem Memory.readByte_two (m : Memory) {a a' : Word} (h : a ≠ a') (v v' : Byte) (b : Word) :
    ((m.writeByte a v).writeByte a' v').readByte b =
      if b = a then v else if b = a' then v' else m.readByte b := by
  simp only [Memory.readByte_writeByte]
  by_cases hb : b = a
  · subst hb; simp [h]
  · simp [hb]

/-- The two addresses of a base-page word differ, even across the wrap (R130). -/
theorem State.bpAddr_ne_succ (s : State) (nn : Byte) : s.bpAddr nn ≠ s.bpAddr (nn + 1#8) := by
  have hne : ∀ k : Byte, k ≠ k + 1#8 := by decide +kernel
  exact fun h => hne nn (joinBytes_inj.1 h).2

theorem State.readByte_writeWord (s : State) (a v b : Word) :
    (s.writeWord a v).readByte b =
      if b = a then loByte v else if b = a + 1#16 then hiByte v else s.readByte b :=
  Memory.readByte_two s.mem (Ne.symm (succ_ne_self a)) _ _ b

theorem State.readByte_writeWordBp (s : State) (nn : Byte) (v b : Word) :
    (s.writeWordBp nn v).readByte b =
      if b = s.bpAddr nn then loByte v else if b = s.bpAddr (nn + 1#8) then hiByte v else s.readByte b :=
  Memory.readByte_two s.mem (s.bpAddr_ne_succ nn) _ _ b

/-! Pushes. -/

theorem State.readByte_push (s : State) (v : Byte) (b : Word) :
    (s.push v).readByte b = if b = joinBytes 0x01#8 s.sp then v else s.readByte b :=
  Memory.readByte_writeByte s.mem _ b v

theorem State.pushWord_flat (s : State) (w : Word) :
    s.pushWord w = { s with
      mem := (s.mem.writeByte (joinBytes 0x01#8 s.sp) (hiByte w)).writeByte
        (joinBytes 0x01#8 (s.sp - 1#8)) (loByte w)
      sp := s.sp - 2#8 } := by
  rw [State.pushWord_eq, sp_sub_one_one]

theorem State.readByte_pushWord (s : State) (w b : Word) :
    (s.pushWord w).readByte b =
      if b = joinBytes 0x01#8 s.sp then hiByte w
      else if b = joinBytes 0x01#8 (s.sp - 1#8) then loByte w else s.readByte b := by
  rw [State.pushWord_flat]
  exact Memory.readByte_two s.mem (fun h => (sp_three_ne s.sp).1 (stackAddr_inj.1 h)) _ _ b

/-- The three pushes of an entry (R318, R319). -/
theorem State.pushWord_push_flat (s : State) (w : Word) (v : Byte) :
    (s.pushWord w).push v = { s with
      mem := ((s.mem.writeByte (joinBytes 0x01#8 s.sp) (hiByte w)).writeByte
        (joinBytes 0x01#8 (s.sp - 1#8)) (loByte w)).writeByte (joinBytes 0x01#8 (s.sp - 2#8)) v
      sp := s.sp - 3#8 } := by
  rw [State.push_eq, State.pushWord_flat]
  simp only [sp_sub_two_one]

theorem State.readByte_pushWord_push (s : State) (w : Word) (v : Byte) (b : Word) :
    ((s.pushWord w).push v).readByte b =
      if b = joinBytes 0x01#8 s.sp then hiByte w
      else if b = joinBytes 0x01#8 (s.sp - 1#8) then loByte w
      else if b = joinBytes 0x01#8 (s.sp - 2#8) then v else s.readByte b := by
  obtain ⟨-, h2, h3⟩ := sp_three_ne s.sp
  rw [State.readByte_push, State.readByte_pushWord, State.pushWord_flat]
  by_cases hb : b = joinBytes 0x01#8 (s.sp - 2#8)
  · subst hb; simp [stackAddr_inj, Ne.symm h2, Ne.symm h3]
  · simp [hb]

/-! Entries (R318, R319). -/

theorem State.takeException_flat (s : State) (ret : Word) (b : Bool) (vector : Word) :
    s.takeException ret b vector = { s with
      mem := ((s.mem.writeByte (joinBytes 0x01#8 s.sp) (hiByte ret)).writeByte
        (joinBytes 0x01#8 (s.sp - 1#8)) (loByte ret)).writeByte (joinBytes 0x01#8 (s.sp - 2#8)) (s.p.pack b)
      sp := s.sp - 3#8
      p := { s.p with i := true, d := if s.cfg.trapClearsD then false else s.p.d }
      pc := ((s.pushWord ret).push (s.p.pack b)).readWord vector } := by
  rw [State.takeException_eq]
  generalize State.readWord _ _ = q
  rw [State.pushWord_push_flat]

theorem State.readByte_takeException (s : State) (ret : Word) (b : Bool) (vector a : Word) :
    (s.takeException ret b vector).readByte a =
      if a = joinBytes 0x01#8 s.sp then hiByte ret
      else if a = joinBytes 0x01#8 (s.sp - 1#8) then loByte ret
      else if a = joinBytes 0x01#8 (s.sp - 2#8) then s.p.pack b else s.readByte a := by
  have h : (s.takeException ret b vector).readByte a = ((s.pushWord ret).push (s.p.pack b)).readByte a := rfl
  rw [h, State.readByte_pushWord_push]

end Sys2Proof.Machine
end

