-- ==== Sys2Proof/Laws/Fields.lean ====
section
/-! SUPPORT. What each shared operation leaves in each field. A proof that follows one field through nested
operations rewrites with these; comparing the nested records themselves by `rfl` costs a comparison of every
field at every level. -/

namespace Sys2Proof.Machine

section
variable (s : State) (v : Byte)
@[simp] theorem State.setNZ_a : (s.setNZ v).a = s.a := rfl
@[simp] theorem State.setNZ_x : (s.setNZ v).x = s.x := rfl
@[simp] theorem State.setNZ_y : (s.setNZ v).y = s.y := rfl
@[simp] theorem State.setNZ_z : (s.setNZ v).z = s.z := rfl
@[simp] theorem State.setNZ_b : (s.setNZ v).b = s.b := rfl
@[simp] theorem State.setNZ_sp : (s.setNZ v).sp = s.sp := rfl
@[simp] theorem State.setNZ_pc : (s.setNZ v).pc = s.pc := rfl
@[simp] theorem State.setNZ_p : (s.setNZ v).p = { s.p with n := v.getLsbD 7, z := decide (v = 0#8) } := rfl
@[simp] theorem State.setNZ_nmiPending : (s.setNZ v).nmiPending = s.nmiPending := rfl
@[simp] theorem State.setNZ_mem : (s.setNZ v).mem = s.mem := rfl
@[simp] theorem State.setNZ_inputs : (s.setNZ v).inputs = s.inputs := rfl
@[simp] theorem State.setNZ_drawn : (s.setNZ v).drawn = s.drawn := rfl
@[simp] theorem State.setNZ_cfg : (s.setNZ v).cfg = s.cfg := rfl
end

section
variable (s : State) (v : Word)
@[simp] theorem State.setNZ16_a : (s.setNZ16 v).a = s.a := rfl
@[simp] theorem State.setNZ16_x : (s.setNZ16 v).x = s.x := rfl
@[simp] theorem State.setNZ16_y : (s.setNZ16 v).y = s.y := rfl
@[simp] theorem State.setNZ16_z : (s.setNZ16 v).z = s.z := rfl
@[simp] theorem State.setNZ16_b : (s.setNZ16 v).b = s.b := rfl
@[simp] theorem State.setNZ16_sp : (s.setNZ16 v).sp = s.sp := rfl
@[simp] theorem State.setNZ16_pc : (s.setNZ16 v).pc = s.pc := rfl
@[simp] theorem State.setNZ16_p : (s.setNZ16 v).p = { s.p with n := v.getLsbD 15, z := decide (v = 0#16) } := rfl
@[simp] theorem State.setNZ16_nmiPending : (s.setNZ16 v).nmiPending = s.nmiPending := rfl
@[simp] theorem State.setNZ16_mem : (s.setNZ16 v).mem = s.mem := rfl
@[simp] theorem State.setNZ16_inputs : (s.setNZ16 v).inputs = s.inputs := rfl
@[simp] theorem State.setNZ16_drawn : (s.setNZ16 v).drawn = s.drawn := rfl
@[simp] theorem State.setNZ16_cfg : (s.setNZ16 v).cfg = s.cfg := rfl
end

section
variable (s : State) (f : Bool)
@[simp] theorem State.setC_a : (s.setC f).a = s.a := rfl
@[simp] theorem State.setC_x : (s.setC f).x = s.x := rfl
@[simp] theorem State.setC_y : (s.setC f).y = s.y := rfl
@[simp] theorem State.setC_z : (s.setC f).z = s.z := rfl
@[simp] theorem State.setC_b : (s.setC f).b = s.b := rfl
@[simp] theorem State.setC_sp : (s.setC f).sp = s.sp := rfl
@[simp] theorem State.setC_pc : (s.setC f).pc = s.pc := rfl
@[simp] theorem State.setC_p : (s.setC f).p = { s.p with c := f } := rfl
@[simp] theorem State.setC_nmiPending : (s.setC f).nmiPending = s.nmiPending := rfl
@[simp] theorem State.setC_mem : (s.setC f).mem = s.mem := rfl
@[simp] theorem State.setC_inputs : (s.setC f).inputs = s.inputs := rfl
@[simp] theorem State.setC_drawn : (s.setC f).drawn = s.drawn := rfl
@[simp] theorem State.setC_cfg : (s.setC f).cfg = s.cfg := rfl
end

section
variable (s : State) (f : Bool)
@[simp] theorem State.setV_a : (s.setV f).a = s.a := rfl
@[simp] theorem State.setV_x : (s.setV f).x = s.x := rfl
@[simp] theorem State.setV_y : (s.setV f).y = s.y := rfl
@[simp] theorem State.setV_z : (s.setV f).z = s.z := rfl
@[simp] theorem State.setV_b : (s.setV f).b = s.b := rfl
@[simp] theorem State.setV_sp : (s.setV f).sp = s.sp := rfl
@[simp] theorem State.setV_pc : (s.setV f).pc = s.pc := rfl
@[simp] theorem State.setV_p : (s.setV f).p = { s.p with v := f } := rfl
@[simp] theorem State.setV_nmiPending : (s.setV f).nmiPending = s.nmiPending := rfl
@[simp] theorem State.setV_mem : (s.setV f).mem = s.mem := rfl
@[simp] theorem State.setV_inputs : (s.setV f).inputs = s.inputs := rfl
@[simp] theorem State.setV_drawn : (s.setV f).drawn = s.drawn := rfl
@[simp] theorem State.setV_cfg : (s.setV f).cfg = s.cfg := rfl
end

section
variable (s : State) (n : Nat)
@[simp] theorem State.advance_a : (s.advance n).a = s.a := rfl
@[simp] theorem State.advance_x : (s.advance n).x = s.x := rfl
@[simp] theorem State.advance_y : (s.advance n).y = s.y := rfl
@[simp] theorem State.advance_z : (s.advance n).z = s.z := rfl
@[simp] theorem State.advance_b : (s.advance n).b = s.b := rfl
@[simp] theorem State.advance_sp : (s.advance n).sp = s.sp := rfl
@[simp] theorem State.advance_pc : (s.advance n).pc = s.pc + BitVec.ofNat 16 n := rfl
@[simp] theorem State.advance_p : (s.advance n).p = s.p := rfl
@[simp] theorem State.advance_nmiPending : (s.advance n).nmiPending = s.nmiPending := rfl
@[simp] theorem State.advance_mem : (s.advance n).mem = s.mem := rfl
@[simp] theorem State.advance_inputs : (s.advance n).inputs = s.inputs := rfl
@[simp] theorem State.advance_drawn : (s.advance n).drawn = s.drawn := rfl
@[simp] theorem State.advance_cfg : (s.advance n).cfg = s.cfg := rfl
end

section
variable (s : State) (a : Word) (v : Byte)
@[simp] theorem State.writeByte_a : (s.writeByte a v).a = s.a := rfl
@[simp] theorem State.writeByte_x : (s.writeByte a v).x = s.x := rfl
@[simp] theorem State.writeByte_y : (s.writeByte a v).y = s.y := rfl
@[simp] theorem State.writeByte_z : (s.writeByte a v).z = s.z := rfl
@[simp] theorem State.writeByte_b : (s.writeByte a v).b = s.b := rfl
@[simp] theorem State.writeByte_sp : (s.writeByte a v).sp = s.sp := rfl
@[simp] theorem State.writeByte_pc : (s.writeByte a v).pc = s.pc := rfl
@[simp] theorem State.writeByte_p : (s.writeByte a v).p = s.p := rfl
@[simp] theorem State.writeByte_nmiPending : (s.writeByte a v).nmiPending = s.nmiPending := rfl
@[simp] theorem State.writeByte_mem : (s.writeByte a v).mem = s.mem.writeByte a v := rfl
@[simp] theorem State.writeByte_inputs : (s.writeByte a v).inputs = s.inputs := rfl
@[simp] theorem State.writeByte_drawn : (s.writeByte a v).drawn = s.drawn := rfl
@[simp] theorem State.writeByte_cfg : (s.writeByte a v).cfg = s.cfg := rfl
end

section
variable (s : State)
@[simp] theorem State.afterPull_a : (s.afterPull).a = s.a := rfl
@[simp] theorem State.afterPull_x : (s.afterPull).x = s.x := rfl
@[simp] theorem State.afterPull_y : (s.afterPull).y = s.y := rfl
@[simp] theorem State.afterPull_z : (s.afterPull).z = s.z := rfl
@[simp] theorem State.afterPull_b : (s.afterPull).b = s.b := rfl
@[simp] theorem State.afterPull_sp : (s.afterPull).sp = s.sp + 1#8 := rfl
@[simp] theorem State.afterPull_pc : (s.afterPull).pc = s.pc := rfl
@[simp] theorem State.afterPull_p : (s.afterPull).p = s.p := rfl
@[simp] theorem State.afterPull_nmiPending : (s.afterPull).nmiPending = s.nmiPending := rfl
@[simp] theorem State.afterPull_mem : (s.afterPull).mem = s.mem := rfl
@[simp] theorem State.afterPull_inputs : (s.afterPull).inputs = s.inputs := rfl
@[simp] theorem State.afterPull_drawn : (s.afterPull).drawn = s.drawn := rfl
@[simp] theorem State.afterPull_cfg : (s.afterPull).cfg = s.cfg := rfl
end

section
variable (s : State)
@[simp] theorem State.draw_a : (s.draw).a = s.a := rfl
@[simp] theorem State.draw_x : (s.draw).x = s.x := rfl
@[simp] theorem State.draw_y : (s.draw).y = s.y := rfl
@[simp] theorem State.draw_z : (s.draw).z = s.z := rfl
@[simp] theorem State.draw_b : (s.draw).b = s.b := rfl
@[simp] theorem State.draw_sp : (s.draw).sp = s.sp := rfl
@[simp] theorem State.draw_pc : (s.draw).pc = s.pc := rfl
@[simp] theorem State.draw_p : (s.draw).p = s.p := rfl
@[simp] theorem State.draw_nmiPending : (s.draw).nmiPending = s.nmiPending := rfl
@[simp] theorem State.draw_mem : (s.draw).mem = s.mem := rfl
@[simp] theorem State.draw_inputs : (s.draw).inputs = s.inputs := rfl
@[simp] theorem State.draw_drawn : (s.draw).drawn = s.drawn + 1 := rfl
@[simp] theorem State.draw_cfg : (s.draw).cfg = s.cfg := rfl
end

section
variable (s : State) (v : Byte)
@[simp] theorem State.push_a : (s.push v).a = s.a := rfl
@[simp] theorem State.push_x : (s.push v).x = s.x := rfl
@[simp] theorem State.push_y : (s.push v).y = s.y := rfl
@[simp] theorem State.push_z : (s.push v).z = s.z := rfl
@[simp] theorem State.push_b : (s.push v).b = s.b := rfl
@[simp] theorem State.push_sp : (s.push v).sp = s.sp - 1#8 := rfl
@[simp] theorem State.push_pc : (s.push v).pc = s.pc := rfl
@[simp] theorem State.push_p : (s.push v).p = s.p := rfl
@[simp] theorem State.push_nmiPending : (s.push v).nmiPending = s.nmiPending := rfl
@[simp] theorem State.push_mem : (s.push v).mem = s.mem.writeByte (joinBytes 0x01#8 s.sp) v := rfl
@[simp] theorem State.push_inputs : (s.push v).inputs = s.inputs := rfl
@[simp] theorem State.push_drawn : (s.push v).drawn = s.drawn := rfl
@[simp] theorem State.push_cfg : (s.push v).cfg = s.cfg := rfl
end

section
variable (s : State) (w : Word)
@[simp] theorem State.pushWord_a : (s.pushWord w).a = s.a := by rw [State.pushWord_flat]
@[simp] theorem State.pushWord_x : (s.pushWord w).x = s.x := by rw [State.pushWord_flat]
@[simp] theorem State.pushWord_y : (s.pushWord w).y = s.y := by rw [State.pushWord_flat]
@[simp] theorem State.pushWord_z : (s.pushWord w).z = s.z := by rw [State.pushWord_flat]
@[simp] theorem State.pushWord_b : (s.pushWord w).b = s.b := by rw [State.pushWord_flat]
@[simp] theorem State.pushWord_sp : (s.pushWord w).sp = s.sp - 2#8 := by rw [State.pushWord_flat]
@[simp] theorem State.pushWord_pc : (s.pushWord w).pc = s.pc := by rw [State.pushWord_flat]
@[simp] theorem State.pushWord_p : (s.pushWord w).p = s.p := by rw [State.pushWord_flat]
@[simp] theorem State.pushWord_nmiPending : (s.pushWord w).nmiPending = s.nmiPending := by rw [State.pushWord_flat]
@[simp] theorem State.pushWord_mem : (s.pushWord w).mem = (s.mem.writeByte (joinBytes 0x01#8 s.sp) (hiByte w)).writeByte
      (joinBytes 0x01#8 (s.sp - 1#8)) (loByte w) := by rw [State.pushWord_flat]
@[simp] theorem State.pushWord_inputs : (s.pushWord w).inputs = s.inputs := by rw [State.pushWord_flat]
@[simp] theorem State.pushWord_drawn : (s.pushWord w).drawn = s.drawn := by rw [State.pushWord_flat]
@[simp] theorem State.pushWord_cfg : (s.pushWord w).cfg = s.cfg := by rw [State.pushWord_flat]
end

section
variable (s : State) (ret : Word) (b : Bool) (vector : Word)
@[simp] theorem State.takeException_a : (s.takeException ret b vector).a = s.a := by
  rw [State.takeException_flat]
@[simp] theorem State.takeException_x : (s.takeException ret b vector).x = s.x := by
  rw [State.takeException_flat]
@[simp] theorem State.takeException_y : (s.takeException ret b vector).y = s.y := by
  rw [State.takeException_flat]
@[simp] theorem State.takeException_z : (s.takeException ret b vector).z = s.z := by
  rw [State.takeException_flat]
@[simp] theorem State.takeException_b : (s.takeException ret b vector).b = s.b := by
  rw [State.takeException_flat]
@[simp] theorem State.takeException_sp : (s.takeException ret b vector).sp = s.sp - 3#8 := by
  rw [State.takeException_flat]
@[simp] theorem State.takeException_p : (s.takeException ret b vector).p =
    { s.p with i := true, d := if s.cfg.trapClearsD then false else s.p.d } := by
  rw [State.takeException_flat]
@[simp] theorem State.takeException_nmiPending : (s.takeException ret b vector).nmiPending = s.nmiPending := by
  rw [State.takeException_flat]
@[simp] theorem State.takeException_inputs : (s.takeException ret b vector).inputs = s.inputs := by
  rw [State.takeException_flat]
@[simp] theorem State.takeException_drawn : (s.takeException ret b vector).drawn = s.drawn := by
  rw [State.takeException_flat]
@[simp] theorem State.takeException_cfg : (s.takeException ret b vector).cfg = s.cfg := by
  rw [State.takeException_flat]
end

end Sys2Proof.Machine
end

