-- ==== Sys2Proof/Laws/PerInstr.lean ====
section
/-! SUPPORT. Statements for all instructions, one lemma for each constructor. -/

namespace Sys2Proof.Laws

/-- The length of an instruction's bytes is the length its opcode has under a configuration that has the
instruction (R80, R92, R96). -/
def EncodedLength.Statement (i : Instr) : Prop :=
  ∀ cfg : Config, i.wellFormed cfg = true →
    (encode i).length = opcodeLength cfg ((encode i).headD 0#8)

namespace EncodedLength

theorem brk : Statement .brk := by intro cfg _; change 1 = opcodeLength cfg 0x00#8; rfl
theorem oraIndx (nn : Byte) : Statement (.oraIndx nn) := by intro cfg _; change 2 = opcodeLength cfg 0x01#8; rfl
theorem cle : Statement .cle := by intro cfg _; change 1 = opcodeLength cfg 0x02#8; rfl
theorem see : Statement .see := by intro cfg _; change 1 = opcodeLength cfg 0x03#8; rfl
theorem tsbBp (nn : Byte) : Statement (.tsbBp nn) := by intro cfg _; change 2 = opcodeLength cfg 0x04#8; rfl
theorem oraBp (nn : Byte) : Statement (.oraBp nn) := by intro cfg _; change 2 = opcodeLength cfg 0x05#8; rfl
theorem aslBp (nn : Byte) : Statement (.aslBp nn) := by intro cfg _; change 2 = opcodeLength cfg 0x06#8; rfl
theorem rmb0 (nn : Byte) : Statement (.rmb0 nn) := by intro cfg _; change 2 = opcodeLength cfg 0x07#8; rfl
theorem php : Statement .php := by intro cfg _; change 1 = opcodeLength cfg 0x08#8; rfl
theorem oraImm (nn : Byte) : Statement (.oraImm nn) := by intro cfg _; change 2 = opcodeLength cfg 0x09#8; rfl
theorem aslAcc : Statement .aslAcc := by intro cfg _; change 1 = opcodeLength cfg 0x0A#8; rfl
theorem tsy : Statement .tsy := by intro cfg _; change 1 = opcodeLength cfg 0x0B#8; rfl
theorem tsbAbs (nnnn : Word) : Statement (.tsbAbs nnnn) := by intro cfg _; change 3 = opcodeLength cfg 0x0C#8; rfl
theorem oraAbs (nnnn : Word) : Statement (.oraAbs nnnn) := by intro cfg _; change 3 = opcodeLength cfg 0x0D#8; rfl
theorem aslAbs (nnnn : Word) : Statement (.aslAbs nnnn) := by intro cfg _; change 3 = opcodeLength cfg 0x0E#8; rfl
theorem bbr0 (nn : Byte) (dd : Byte) : Statement (.bbr0 nn dd) := by intro cfg _; change 3 = opcodeLength cfg 0x0F#8; rfl
theorem bplRel8 (dd : Byte) : Statement (.bplRel8 dd) := by intro cfg _; change 2 = opcodeLength cfg 0x10#8; rfl
theorem oraIndy (nn : Byte) : Statement (.oraIndy nn) := by intro cfg _; change 2 = opcodeLength cfg 0x11#8; rfl
theorem oraIndz (nn : Byte) : Statement (.oraIndz nn) := by intro cfg _; change 2 = opcodeLength cfg 0x12#8; rfl
theorem bplRel16 (dddd : Word) : Statement (.bplRel16 dddd) := by intro cfg _; change 3 = opcodeLength cfg 0x13#8; rfl
theorem trbBp (nn : Byte) : Statement (.trbBp nn) := by intro cfg _; change 2 = opcodeLength cfg 0x14#8; rfl
theorem oraBpx (nn : Byte) : Statement (.oraBpx nn) := by intro cfg _; change 2 = opcodeLength cfg 0x15#8; rfl
theorem aslBpx (nn : Byte) : Statement (.aslBpx nn) := by intro cfg _; change 2 = opcodeLength cfg 0x16#8; rfl
theorem rmb1 (nn : Byte) : Statement (.rmb1 nn) := by intro cfg _; change 2 = opcodeLength cfg 0x17#8; rfl
theorem clc : Statement .clc := by intro cfg _; change 1 = opcodeLength cfg 0x18#8; rfl
theorem oraAbsy (nnnn : Word) : Statement (.oraAbsy nnnn) := by intro cfg _; change 3 = opcodeLength cfg 0x19#8; rfl
theorem incAcc : Statement .incAcc := by intro cfg _; change 1 = opcodeLength cfg 0x1A#8; rfl
theorem inz : Statement .inz := by intro cfg _; change 1 = opcodeLength cfg 0x1B#8; rfl
theorem trbAbs (nnnn : Word) : Statement (.trbAbs nnnn) := by intro cfg _; change 3 = opcodeLength cfg 0x1C#8; rfl
theorem oraAbsx (nnnn : Word) : Statement (.oraAbsx nnnn) := by intro cfg _; change 3 = opcodeLength cfg 0x1D#8; rfl
theorem aslAbsx (nnnn : Word) : Statement (.aslAbsx nnnn) := by intro cfg _; change 3 = opcodeLength cfg 0x1E#8; rfl
theorem bbr1 (nn : Byte) (dd : Byte) : Statement (.bbr1 nn dd) := by intro cfg _; change 3 = opcodeLength cfg 0x1F#8; rfl
theorem jsrAbs (nnnn : Word) : Statement (.jsrAbs nnnn) := by intro cfg _; change 3 = opcodeLength cfg 0x20#8; rfl
theorem andIndx (nn : Byte) : Statement (.andIndx nn) := by intro cfg _; change 2 = opcodeLength cfg 0x21#8; rfl
theorem jsrAbsInd (nnnn : Word) : Statement (.jsrAbsInd nnnn) := by intro cfg _; change 3 = opcodeLength cfg 0x22#8; rfl
theorem jsrAbsxInd (nnnn : Word) : Statement (.jsrAbsxInd nnnn) := by intro cfg _; change 3 = opcodeLength cfg 0x23#8; rfl
theorem bitBp (nn : Byte) : Statement (.bitBp nn) := by intro cfg _; change 2 = opcodeLength cfg 0x24#8; rfl
theorem andBp (nn : Byte) : Statement (.andBp nn) := by intro cfg _; change 2 = opcodeLength cfg 0x25#8; rfl
theorem rolBp (nn : Byte) : Statement (.rolBp nn) := by intro cfg _; change 2 = opcodeLength cfg 0x26#8; rfl
theorem rmb2 (nn : Byte) : Statement (.rmb2 nn) := by intro cfg _; change 2 = opcodeLength cfg 0x27#8; rfl
theorem plp : Statement .plp := by intro cfg _; change 1 = opcodeLength cfg 0x28#8; rfl
theorem andImm (nn : Byte) : Statement (.andImm nn) := by intro cfg _; change 2 = opcodeLength cfg 0x29#8; rfl
theorem rolAcc : Statement .rolAcc := by intro cfg _; change 1 = opcodeLength cfg 0x2A#8; rfl
theorem tys : Statement .tys := by intro cfg _; change 1 = opcodeLength cfg 0x2B#8; rfl
theorem bitAbs (nnnn : Word) : Statement (.bitAbs nnnn) := by intro cfg _; change 3 = opcodeLength cfg 0x2C#8; rfl
theorem andAbs (nnnn : Word) : Statement (.andAbs nnnn) := by intro cfg _; change 3 = opcodeLength cfg 0x2D#8; rfl
theorem rolAbs (nnnn : Word) : Statement (.rolAbs nnnn) := by intro cfg _; change 3 = opcodeLength cfg 0x2E#8; rfl
theorem bbr2 (nn : Byte) (dd : Byte) : Statement (.bbr2 nn dd) := by intro cfg _; change 3 = opcodeLength cfg 0x2F#8; rfl
theorem bmiRel8 (dd : Byte) : Statement (.bmiRel8 dd) := by intro cfg _; change 2 = opcodeLength cfg 0x30#8; rfl
theorem andIndy (nn : Byte) : Statement (.andIndy nn) := by intro cfg _; change 2 = opcodeLength cfg 0x31#8; rfl
theorem andIndz (nn : Byte) : Statement (.andIndz nn) := by intro cfg _; change 2 = opcodeLength cfg 0x32#8; rfl
theorem bmiRel16 (dddd : Word) : Statement (.bmiRel16 dddd) := by intro cfg _; change 3 = opcodeLength cfg 0x33#8; rfl
theorem bitBpx (nn : Byte) : Statement (.bitBpx nn) := by intro cfg _; change 2 = opcodeLength cfg 0x34#8; rfl
theorem andBpx (nn : Byte) : Statement (.andBpx nn) := by intro cfg _; change 2 = opcodeLength cfg 0x35#8; rfl
theorem rolBpx (nn : Byte) : Statement (.rolBpx nn) := by intro cfg _; change 2 = opcodeLength cfg 0x36#8; rfl
theorem rmb3 (nn : Byte) : Statement (.rmb3 nn) := by intro cfg _; change 2 = opcodeLength cfg 0x37#8; rfl
theorem sec : Statement .sec := by intro cfg _; change 1 = opcodeLength cfg 0x38#8; rfl
theorem andAbsy (nnnn : Word) : Statement (.andAbsy nnnn) := by intro cfg _; change 3 = opcodeLength cfg 0x39#8; rfl
theorem decAcc : Statement .decAcc := by intro cfg _; change 1 = opcodeLength cfg 0x3A#8; rfl
theorem dez : Statement .dez := by intro cfg _; change 1 = opcodeLength cfg 0x3B#8; rfl
theorem bitAbsx (nnnn : Word) : Statement (.bitAbsx nnnn) := by intro cfg _; change 3 = opcodeLength cfg 0x3C#8; rfl
theorem andAbsx (nnnn : Word) : Statement (.andAbsx nnnn) := by intro cfg _; change 3 = opcodeLength cfg 0x3D#8; rfl
theorem rolAbsx (nnnn : Word) : Statement (.rolAbsx nnnn) := by intro cfg _; change 3 = opcodeLength cfg 0x3E#8; rfl
theorem bbr3 (nn : Byte) (dd : Byte) : Statement (.bbr3 nn dd) := by intro cfg _; change 3 = opcodeLength cfg 0x3F#8; rfl
theorem rti : Statement .rti := by intro cfg _; change 1 = opcodeLength cfg 0x40#8; rfl
theorem eorIndx (nn : Byte) : Statement (.eorIndx nn) := by intro cfg _; change 2 = opcodeLength cfg 0x41#8; rfl
theorem neg : Statement .neg := by intro cfg _; change 1 = opcodeLength cfg 0x42#8; rfl
theorem asrAcc : Statement .asrAcc := by intro cfg _; change 1 = opcodeLength cfg 0x43#8; rfl
theorem asrBp (nn : Byte) : Statement (.asrBp nn) := by intro cfg _; change 2 = opcodeLength cfg 0x44#8; rfl
theorem eorBp (nn : Byte) : Statement (.eorBp nn) := by intro cfg _; change 2 = opcodeLength cfg 0x45#8; rfl
theorem lsrBp (nn : Byte) : Statement (.lsrBp nn) := by intro cfg _; change 2 = opcodeLength cfg 0x46#8; rfl
theorem rmb4 (nn : Byte) : Statement (.rmb4 nn) := by intro cfg _; change 2 = opcodeLength cfg 0x47#8; rfl
theorem pha : Statement .pha := by intro cfg _; change 1 = opcodeLength cfg 0x48#8; rfl
theorem eorImm (nn : Byte) : Statement (.eorImm nn) := by intro cfg _; change 2 = opcodeLength cfg 0x49#8; rfl
theorem lsrAcc : Statement .lsrAcc := by intro cfg _; change 1 = opcodeLength cfg 0x4A#8; rfl
theorem taz : Statement .taz := by intro cfg _; change 1 = opcodeLength cfg 0x4B#8; rfl
theorem jmpAbs (nnnn : Word) : Statement (.jmpAbs nnnn) := by intro cfg _; change 3 = opcodeLength cfg 0x4C#8; rfl
theorem eorAbs (nnnn : Word) : Statement (.eorAbs nnnn) := by intro cfg _; change 3 = opcodeLength cfg 0x4D#8; rfl
theorem lsrAbs (nnnn : Word) : Statement (.lsrAbs nnnn) := by intro cfg _; change 3 = opcodeLength cfg 0x4E#8; rfl
theorem bbr4 (nn : Byte) (dd : Byte) : Statement (.bbr4 nn dd) := by intro cfg _; change 3 = opcodeLength cfg 0x4F#8; rfl
theorem bvcRel8 (dd : Byte) : Statement (.bvcRel8 dd) := by intro cfg _; change 2 = opcodeLength cfg 0x50#8; rfl
theorem eorIndy (nn : Byte) : Statement (.eorIndy nn) := by intro cfg _; change 2 = opcodeLength cfg 0x51#8; rfl
theorem eorIndz (nn : Byte) : Statement (.eorIndz nn) := by intro cfg _; change 2 = opcodeLength cfg 0x52#8; rfl
theorem bvcRel16 (dddd : Word) : Statement (.bvcRel16 dddd) := by intro cfg _; change 3 = opcodeLength cfg 0x53#8; rfl
theorem asrBpx (nn : Byte) : Statement (.asrBpx nn) := by intro cfg _; change 2 = opcodeLength cfg 0x54#8; rfl
theorem eorBpx (nn : Byte) : Statement (.eorBpx nn) := by intro cfg _; change 2 = opcodeLength cfg 0x55#8; rfl
theorem lsrBpx (nn : Byte) : Statement (.lsrBpx nn) := by intro cfg _; change 2 = opcodeLength cfg 0x56#8; rfl
theorem rmb5 (nn : Byte) : Statement (.rmb5 nn) := by intro cfg _; change 2 = opcodeLength cfg 0x57#8; rfl
theorem cli : Statement .cli := by intro cfg _; change 1 = opcodeLength cfg 0x58#8; rfl
theorem eorAbsy (nnnn : Word) : Statement (.eorAbsy nnnn) := by intro cfg _; change 3 = opcodeLength cfg 0x59#8; rfl
theorem phy : Statement .phy := by intro cfg _; change 1 = opcodeLength cfg 0x5A#8; rfl
theorem tab : Statement .tab := by intro cfg _; change 1 = opcodeLength cfg 0x5B#8; rfl
theorem map : Statement .map := by intro cfg _; change 1 = opcodeLength cfg 0x5C#8; rfl
theorem eorAbsx (nnnn : Word) : Statement (.eorAbsx nnnn) := by intro cfg _; change 3 = opcodeLength cfg 0x5D#8; rfl
theorem lsrAbsx (nnnn : Word) : Statement (.lsrAbsx nnnn) := by intro cfg _; change 3 = opcodeLength cfg 0x5E#8; rfl
theorem bbr5 (nn : Byte) (dd : Byte) : Statement (.bbr5 nn dd) := by intro cfg _; change 3 = opcodeLength cfg 0x5F#8; rfl
theorem rts : Statement .rts := by intro cfg _; change 1 = opcodeLength cfg 0x60#8; rfl
theorem adcIndx (nn : Byte) : Statement (.adcIndx nn) := by intro cfg _; change 2 = opcodeLength cfg 0x61#8; rfl
theorem rtsImm (nn : Byte) : Statement (.rtsImm nn) := by intro cfg _; change 2 = opcodeLength cfg 0x62#8; rfl
theorem bsr (dddd : Word) : Statement (.bsr dddd) := by intro cfg _; change 3 = opcodeLength cfg 0x63#8; rfl
theorem stzBp (nn : Byte) : Statement (.stzBp nn) := by intro cfg _; change 2 = opcodeLength cfg 0x64#8; rfl
theorem adcBp (nn : Byte) : Statement (.adcBp nn) := by intro cfg _; change 2 = opcodeLength cfg 0x65#8; rfl
theorem rorBp (nn : Byte) : Statement (.rorBp nn) := by intro cfg _; change 2 = opcodeLength cfg 0x66#8; rfl
theorem rmb6 (nn : Byte) : Statement (.rmb6 nn) := by intro cfg _; change 2 = opcodeLength cfg 0x67#8; rfl
theorem pla : Statement .pla := by intro cfg _; change 1 = opcodeLength cfg 0x68#8; rfl
theorem adcImm (nn : Byte) : Statement (.adcImm nn) := by intro cfg _; change 2 = opcodeLength cfg 0x69#8; rfl
theorem rorAcc : Statement .rorAcc := by intro cfg _; change 1 = opcodeLength cfg 0x6A#8; rfl
theorem tza : Statement .tza := by intro cfg _; change 1 = opcodeLength cfg 0x6B#8; rfl
theorem jmpAbsInd (nnnn : Word) : Statement (.jmpAbsInd nnnn) := by intro cfg _; change 3 = opcodeLength cfg 0x6C#8; rfl
theorem adcAbs (nnnn : Word) : Statement (.adcAbs nnnn) := by intro cfg _; change 3 = opcodeLength cfg 0x6D#8; rfl
theorem rorAbs (nnnn : Word) : Statement (.rorAbs nnnn) := by intro cfg _; change 3 = opcodeLength cfg 0x6E#8; rfl
theorem bbr6 (nn : Byte) (dd : Byte) : Statement (.bbr6 nn dd) := by intro cfg _; change 3 = opcodeLength cfg 0x6F#8; rfl
theorem bvsRel8 (dd : Byte) : Statement (.bvsRel8 dd) := by intro cfg _; change 2 = opcodeLength cfg 0x70#8; rfl
theorem adcIndy (nn : Byte) : Statement (.adcIndy nn) := by intro cfg _; change 2 = opcodeLength cfg 0x71#8; rfl
theorem adcIndz (nn : Byte) : Statement (.adcIndz nn) := by intro cfg _; change 2 = opcodeLength cfg 0x72#8; rfl
theorem bvsRel16 (dddd : Word) : Statement (.bvsRel16 dddd) := by intro cfg _; change 3 = opcodeLength cfg 0x73#8; rfl
theorem stzBpx (nn : Byte) : Statement (.stzBpx nn) := by intro cfg _; change 2 = opcodeLength cfg 0x74#8; rfl
theorem adcBpx (nn : Byte) : Statement (.adcBpx nn) := by intro cfg _; change 2 = opcodeLength cfg 0x75#8; rfl
theorem rorBpx (nn : Byte) : Statement (.rorBpx nn) := by intro cfg _; change 2 = opcodeLength cfg 0x76#8; rfl
theorem rmb7 (nn : Byte) : Statement (.rmb7 nn) := by intro cfg _; change 2 = opcodeLength cfg 0x77#8; rfl
theorem sei : Statement .sei := by intro cfg _; change 1 = opcodeLength cfg 0x78#8; rfl
theorem adcAbsy (nnnn : Word) : Statement (.adcAbsy nnnn) := by intro cfg _; change 3 = opcodeLength cfg 0x79#8; rfl
theorem ply : Statement .ply := by intro cfg _; change 1 = opcodeLength cfg 0x7A#8; rfl
theorem tba : Statement .tba := by intro cfg _; change 1 = opcodeLength cfg 0x7B#8; rfl
theorem jmpAbsxInd (nnnn : Word) : Statement (.jmpAbsxInd nnnn) := by intro cfg _; change 3 = opcodeLength cfg 0x7C#8; rfl
theorem adcAbsx (nnnn : Word) : Statement (.adcAbsx nnnn) := by intro cfg _; change 3 = opcodeLength cfg 0x7D#8; rfl
theorem rorAbsx (nnnn : Word) : Statement (.rorAbsx nnnn) := by intro cfg _; change 3 = opcodeLength cfg 0x7E#8; rfl
theorem bbr7 (nn : Byte) (dd : Byte) : Statement (.bbr7 nn dd) := by intro cfg _; change 3 = opcodeLength cfg 0x7F#8; rfl
theorem braRel8 (dd : Byte) : Statement (.braRel8 dd) := by intro cfg _; change 2 = opcodeLength cfg 0x80#8; rfl
theorem staIndx (nn : Byte) : Statement (.staIndx nn) := by intro cfg _; change 2 = opcodeLength cfg 0x81#8; rfl
theorem staIndsp (nn : Byte) : Statement (.staIndsp nn) := by intro cfg _; change 2 = opcodeLength cfg 0x82#8; rfl
theorem braRel16 (dddd : Word) : Statement (.braRel16 dddd) := by intro cfg _; change 3 = opcodeLength cfg 0x83#8; rfl
theorem styBp (nn : Byte) : Statement (.styBp nn) := by intro cfg _; change 2 = opcodeLength cfg 0x84#8; rfl
theorem staBp (nn : Byte) : Statement (.staBp nn) := by intro cfg _; change 2 = opcodeLength cfg 0x85#8; rfl
theorem stxBp (nn : Byte) : Statement (.stxBp nn) := by intro cfg _; change 2 = opcodeLength cfg 0x86#8; rfl
theorem smb0 (nn : Byte) : Statement (.smb0 nn) := by intro cfg _; change 2 = opcodeLength cfg 0x87#8; rfl
theorem dey : Statement .dey := by intro cfg _; change 1 = opcodeLength cfg 0x88#8; rfl
theorem bitImm (nn : Byte) : Statement (.bitImm nn) := by intro cfg _; change 2 = opcodeLength cfg 0x89#8; rfl
theorem txa : Statement .txa := by intro cfg _; change 1 = opcodeLength cfg 0x8A#8; rfl
theorem styAbsx (nnnn : Word) : Statement (.styAbsx nnnn) := by intro cfg _; change 3 = opcodeLength cfg 0x8B#8; rfl
theorem styAbs (nnnn : Word) : Statement (.styAbs nnnn) := by intro cfg _; change 3 = opcodeLength cfg 0x8C#8; rfl
theorem staAbs (nnnn : Word) : Statement (.staAbs nnnn) := by intro cfg _; change 3 = opcodeLength cfg 0x8D#8; rfl
theorem stxAbs (nnnn : Word) : Statement (.stxAbs nnnn) := by intro cfg _; change 3 = opcodeLength cfg 0x8E#8; rfl
theorem bbs0 (nn : Byte) (dd : Byte) : Statement (.bbs0 nn dd) := by intro cfg _; change 3 = opcodeLength cfg 0x8F#8; rfl
theorem bccRel8 (dd : Byte) : Statement (.bccRel8 dd) := by intro cfg _; change 2 = opcodeLength cfg 0x90#8; rfl
theorem staIndy (nn : Byte) : Statement (.staIndy nn) := by intro cfg _; change 2 = opcodeLength cfg 0x91#8; rfl
theorem staIndz (nn : Byte) : Statement (.staIndz nn) := by intro cfg _; change 2 = opcodeLength cfg 0x92#8; rfl
theorem bccRel16 (dddd : Word) : Statement (.bccRel16 dddd) := by intro cfg _; change 3 = opcodeLength cfg 0x93#8; rfl
theorem styBpx (nn : Byte) : Statement (.styBpx nn) := by intro cfg _; change 2 = opcodeLength cfg 0x94#8; rfl
theorem staBpx (nn : Byte) : Statement (.staBpx nn) := by intro cfg _; change 2 = opcodeLength cfg 0x95#8; rfl
theorem stxBpy (nn : Byte) : Statement (.stxBpy nn) := by intro cfg _; change 2 = opcodeLength cfg 0x96#8; rfl
theorem smb1 (nn : Byte) : Statement (.smb1 nn) := by intro cfg _; change 2 = opcodeLength cfg 0x97#8; rfl
theorem tya : Statement .tya := by intro cfg _; change 1 = opcodeLength cfg 0x98#8; rfl
theorem staAbsy (nnnn : Word) : Statement (.staAbsy nnnn) := by intro cfg _; change 3 = opcodeLength cfg 0x99#8; rfl
theorem txs : Statement .txs := by intro cfg _; change 1 = opcodeLength cfg 0x9A#8; rfl
theorem stxAbsy (nnnn : Word) : Statement (.stxAbsy nnnn) := by intro cfg _; change 3 = opcodeLength cfg 0x9B#8; rfl
theorem stzAbs (nnnn : Word) : Statement (.stzAbs nnnn) := by intro cfg _; change 3 = opcodeLength cfg 0x9C#8; rfl
theorem staAbsx (nnnn : Word) : Statement (.staAbsx nnnn) := by intro cfg _; change 3 = opcodeLength cfg 0x9D#8; rfl
theorem stzAbsx (nnnn : Word) : Statement (.stzAbsx nnnn) := by intro cfg _; change 3 = opcodeLength cfg 0x9E#8; rfl
theorem bbs1 (nn : Byte) (dd : Byte) : Statement (.bbs1 nn dd) := by intro cfg _; change 3 = opcodeLength cfg 0x9F#8; rfl
theorem ldyImm (nn : Byte) : Statement (.ldyImm nn) := by intro cfg _; change 2 = opcodeLength cfg 0xA0#8; rfl
theorem ldaIndx (nn : Byte) : Statement (.ldaIndx nn) := by intro cfg _; change 2 = opcodeLength cfg 0xA1#8; rfl
theorem ldxImm (nn : Byte) : Statement (.ldxImm nn) := by intro cfg _; change 2 = opcodeLength cfg 0xA2#8; rfl
theorem ldzImm (nn : Byte) : Statement (.ldzImm nn) := by intro cfg _; change 2 = opcodeLength cfg 0xA3#8; rfl
theorem ldyBp (nn : Byte) : Statement (.ldyBp nn) := by intro cfg _; change 2 = opcodeLength cfg 0xA4#8; rfl
theorem ldaBp (nn : Byte) : Statement (.ldaBp nn) := by intro cfg _; change 2 = opcodeLength cfg 0xA5#8; rfl
theorem ldxBp (nn : Byte) : Statement (.ldxBp nn) := by intro cfg _; change 2 = opcodeLength cfg 0xA6#8; rfl
theorem smb2 (nn : Byte) : Statement (.smb2 nn) := by intro cfg _; change 2 = opcodeLength cfg 0xA7#8; rfl
theorem tay : Statement .tay := by intro cfg _; change 1 = opcodeLength cfg 0xA8#8; rfl
theorem ldaImm (nn : Byte) : Statement (.ldaImm nn) := by intro cfg _; change 2 = opcodeLength cfg 0xA9#8; rfl
theorem tax : Statement .tax := by intro cfg _; change 1 = opcodeLength cfg 0xAA#8; rfl
theorem ldzAbs (nnnn : Word) : Statement (.ldzAbs nnnn) := by intro cfg _; change 3 = opcodeLength cfg 0xAB#8; rfl
theorem ldyAbs (nnnn : Word) : Statement (.ldyAbs nnnn) := by intro cfg _; change 3 = opcodeLength cfg 0xAC#8; rfl
theorem ldaAbs (nnnn : Word) : Statement (.ldaAbs nnnn) := by intro cfg _; change 3 = opcodeLength cfg 0xAD#8; rfl
theorem ldxAbs (nnnn : Word) : Statement (.ldxAbs nnnn) := by intro cfg _; change 3 = opcodeLength cfg 0xAE#8; rfl
theorem bbs2 (nn : Byte) (dd : Byte) : Statement (.bbs2 nn dd) := by intro cfg _; change 3 = opcodeLength cfg 0xAF#8; rfl
theorem bcsRel8 (dd : Byte) : Statement (.bcsRel8 dd) := by intro cfg _; change 2 = opcodeLength cfg 0xB0#8; rfl
theorem ldaIndy (nn : Byte) : Statement (.ldaIndy nn) := by intro cfg _; change 2 = opcodeLength cfg 0xB1#8; rfl
theorem ldaIndz (nn : Byte) : Statement (.ldaIndz nn) := by intro cfg _; change 2 = opcodeLength cfg 0xB2#8; rfl
theorem bcsRel16 (dddd : Word) : Statement (.bcsRel16 dddd) := by intro cfg _; change 3 = opcodeLength cfg 0xB3#8; rfl
theorem ldyBpx (nn : Byte) : Statement (.ldyBpx nn) := by intro cfg _; change 2 = opcodeLength cfg 0xB4#8; rfl
theorem ldaBpx (nn : Byte) : Statement (.ldaBpx nn) := by intro cfg _; change 2 = opcodeLength cfg 0xB5#8; rfl
theorem ldxBpy (nn : Byte) : Statement (.ldxBpy nn) := by intro cfg _; change 2 = opcodeLength cfg 0xB6#8; rfl
theorem smb3 (nn : Byte) : Statement (.smb3 nn) := by intro cfg _; change 2 = opcodeLength cfg 0xB7#8; rfl
theorem clv : Statement .clv := by intro cfg _; change 1 = opcodeLength cfg 0xB8#8; rfl
theorem ldaAbsy (nnnn : Word) : Statement (.ldaAbsy nnnn) := by intro cfg _; change 3 = opcodeLength cfg 0xB9#8; rfl
theorem tsx : Statement .tsx := by intro cfg _; change 1 = opcodeLength cfg 0xBA#8; rfl
theorem ldzAbsx (nnnn : Word) : Statement (.ldzAbsx nnnn) := by intro cfg _; change 3 = opcodeLength cfg 0xBB#8; rfl
theorem ldyAbsx (nnnn : Word) : Statement (.ldyAbsx nnnn) := by intro cfg _; change 3 = opcodeLength cfg 0xBC#8; rfl
theorem ldaAbsx (nnnn : Word) : Statement (.ldaAbsx nnnn) := by intro cfg _; change 3 = opcodeLength cfg 0xBD#8; rfl
theorem ldxAbsy (nnnn : Word) : Statement (.ldxAbsy nnnn) := by intro cfg _; change 3 = opcodeLength cfg 0xBE#8; rfl
theorem bbs3 (nn : Byte) (dd : Byte) : Statement (.bbs3 nn dd) := by intro cfg _; change 3 = opcodeLength cfg 0xBF#8; rfl
theorem cpyImm (nn : Byte) : Statement (.cpyImm nn) := by intro cfg _; change 2 = opcodeLength cfg 0xC0#8; rfl
theorem cmpIndx (nn : Byte) : Statement (.cmpIndx nn) := by intro cfg _; change 2 = opcodeLength cfg 0xC1#8; rfl
theorem cpzImm (nn : Byte) : Statement (.cpzImm nn) := by intro cfg _; change 2 = opcodeLength cfg 0xC2#8; rfl
theorem dew (op : WordOperand) : Statement (.dew op) := by
  intro cfg h
  cases op <;> cases hf : cfg.dewOperand <;>
    simp_all [Instr.wellFormed, WordOperand.hasForm, encode, encodeWordOperand, opcodeLength, formLength,
      Machine.leBytes]
theorem cpyBp (nn : Byte) : Statement (.cpyBp nn) := by intro cfg _; change 2 = opcodeLength cfg 0xC4#8; rfl
theorem cmpBp (nn : Byte) : Statement (.cmpBp nn) := by intro cfg _; change 2 = opcodeLength cfg 0xC5#8; rfl
theorem decBp (nn : Byte) : Statement (.decBp nn) := by intro cfg _; change 2 = opcodeLength cfg 0xC6#8; rfl
theorem smb4 (nn : Byte) : Statement (.smb4 nn) := by intro cfg _; change 2 = opcodeLength cfg 0xC7#8; rfl
theorem iny : Statement .iny := by intro cfg _; change 1 = opcodeLength cfg 0xC8#8; rfl
theorem cmpImm (nn : Byte) : Statement (.cmpImm nn) := by intro cfg _; change 2 = opcodeLength cfg 0xC9#8; rfl
theorem dex : Statement .dex := by intro cfg _; change 1 = opcodeLength cfg 0xCA#8; rfl
theorem asw (nnnn : Word) : Statement (.asw nnnn) := by intro cfg _; change 3 = opcodeLength cfg 0xCB#8; rfl
theorem cpyAbs (nnnn : Word) : Statement (.cpyAbs nnnn) := by intro cfg _; change 3 = opcodeLength cfg 0xCC#8; rfl
theorem cmpAbs (nnnn : Word) : Statement (.cmpAbs nnnn) := by intro cfg _; change 3 = opcodeLength cfg 0xCD#8; rfl
theorem decAbs (nnnn : Word) : Statement (.decAbs nnnn) := by intro cfg _; change 3 = opcodeLength cfg 0xCE#8; rfl
theorem bbs4 (nn : Byte) (dd : Byte) : Statement (.bbs4 nn dd) := by intro cfg _; change 3 = opcodeLength cfg 0xCF#8; rfl
theorem bneRel8 (dd : Byte) : Statement (.bneRel8 dd) := by intro cfg _; change 2 = opcodeLength cfg 0xD0#8; rfl
theorem cmpIndy (nn : Byte) : Statement (.cmpIndy nn) := by intro cfg _; change 2 = opcodeLength cfg 0xD1#8; rfl
theorem cmpIndz (nn : Byte) : Statement (.cmpIndz nn) := by intro cfg _; change 2 = opcodeLength cfg 0xD2#8; rfl
theorem bneRel16 (dddd : Word) : Statement (.bneRel16 dddd) := by intro cfg _; change 3 = opcodeLength cfg 0xD3#8; rfl
theorem cpzBp (nn : Byte) : Statement (.cpzBp nn) := by intro cfg _; change 2 = opcodeLength cfg 0xD4#8; rfl
theorem cmpBpx (nn : Byte) : Statement (.cmpBpx nn) := by intro cfg _; change 2 = opcodeLength cfg 0xD5#8; rfl
theorem decBpx (nn : Byte) : Statement (.decBpx nn) := by intro cfg _; change 2 = opcodeLength cfg 0xD6#8; rfl
theorem smb5 (nn : Byte) : Statement (.smb5 nn) := by intro cfg _; change 2 = opcodeLength cfg 0xD7#8; rfl
theorem cld : Statement .cld := by intro cfg _; change 1 = opcodeLength cfg 0xD8#8; rfl
theorem cmpAbsy (nnnn : Word) : Statement (.cmpAbsy nnnn) := by intro cfg _; change 3 = opcodeLength cfg 0xD9#8; rfl
theorem phx : Statement .phx := by intro cfg _; change 1 = opcodeLength cfg 0xDA#8; rfl
theorem phz : Statement .phz := by intro cfg _; change 1 = opcodeLength cfg 0xDB#8; rfl
theorem cpzAbs (nnnn : Word) : Statement (.cpzAbs nnnn) := by intro cfg _; change 3 = opcodeLength cfg 0xDC#8; rfl
theorem cmpAbsx (nnnn : Word) : Statement (.cmpAbsx nnnn) := by intro cfg _; change 3 = opcodeLength cfg 0xDD#8; rfl
theorem decAbsx (nnnn : Word) : Statement (.decAbsx nnnn) := by intro cfg _; change 3 = opcodeLength cfg 0xDE#8; rfl
theorem bbs5 (nn : Byte) (dd : Byte) : Statement (.bbs5 nn dd) := by intro cfg _; change 3 = opcodeLength cfg 0xDF#8; rfl
theorem cpxImm (nn : Byte) : Statement (.cpxImm nn) := by intro cfg _; change 2 = opcodeLength cfg 0xE0#8; rfl
theorem sbcIndx (nn : Byte) : Statement (.sbcIndx nn) := by intro cfg _; change 2 = opcodeLength cfg 0xE1#8; rfl
theorem ldaIndsp (nn : Byte) : Statement (.ldaIndsp nn) := by intro cfg _; change 2 = opcodeLength cfg 0xE2#8; rfl
theorem inw (op : WordOperand) : Statement (.inw op) := by
  intro cfg h
  cases op <;> cases hf : cfg.inwOperand <;>
    simp_all [Instr.wellFormed, WordOperand.hasForm, encode, encodeWordOperand, opcodeLength, formLength,
      Machine.leBytes]
theorem cpxBp (nn : Byte) : Statement (.cpxBp nn) := by intro cfg _; change 2 = opcodeLength cfg 0xE4#8; rfl
theorem sbcBp (nn : Byte) : Statement (.sbcBp nn) := by intro cfg _; change 2 = opcodeLength cfg 0xE5#8; rfl
theorem incBp (nn : Byte) : Statement (.incBp nn) := by intro cfg _; change 2 = opcodeLength cfg 0xE6#8; rfl
theorem smb6 (nn : Byte) : Statement (.smb6 nn) := by intro cfg _; change 2 = opcodeLength cfg 0xE7#8; rfl
theorem inx : Statement .inx := by intro cfg _; change 1 = opcodeLength cfg 0xE8#8; rfl
theorem sbcImm (nn : Byte) : Statement (.sbcImm nn) := by intro cfg _; change 2 = opcodeLength cfg 0xE9#8; rfl
theorem nop : Statement .nop := by intro cfg _; change 1 = opcodeLength cfg 0xEA#8; rfl
theorem row (nnnn : Word) : Statement (.row nnnn) := by intro cfg _; change 3 = opcodeLength cfg 0xEB#8; rfl
theorem cpxAbs (nnnn : Word) : Statement (.cpxAbs nnnn) := by intro cfg _; change 3 = opcodeLength cfg 0xEC#8; rfl
theorem sbcAbs (nnnn : Word) : Statement (.sbcAbs nnnn) := by intro cfg _; change 3 = opcodeLength cfg 0xED#8; rfl
theorem incAbs (nnnn : Word) : Statement (.incAbs nnnn) := by intro cfg _; change 3 = opcodeLength cfg 0xEE#8; rfl
theorem bbs6 (nn : Byte) (dd : Byte) : Statement (.bbs6 nn dd) := by intro cfg _; change 3 = opcodeLength cfg 0xEF#8; rfl
theorem beqRel8 (dd : Byte) : Statement (.beqRel8 dd) := by intro cfg _; change 2 = opcodeLength cfg 0xF0#8; rfl
theorem sbcIndy (nn : Byte) : Statement (.sbcIndy nn) := by intro cfg _; change 2 = opcodeLength cfg 0xF1#8; rfl
theorem sbcIndz (nn : Byte) : Statement (.sbcIndz nn) := by intro cfg _; change 2 = opcodeLength cfg 0xF2#8; rfl
theorem beqRel16 (dddd : Word) : Statement (.beqRel16 dddd) := by intro cfg _; change 3 = opcodeLength cfg 0xF3#8; rfl
theorem phwImm16 (nnnn : Word) : Statement (.phwImm16 nnnn) := by intro cfg _; change 3 = opcodeLength cfg 0xF4#8; rfl
theorem sbcBpx (nn : Byte) : Statement (.sbcBpx nn) := by intro cfg _; change 2 = opcodeLength cfg 0xF5#8; rfl
theorem incBpx (nn : Byte) : Statement (.incBpx nn) := by intro cfg _; change 2 = opcodeLength cfg 0xF6#8; rfl
theorem smb7 (nn : Byte) : Statement (.smb7 nn) := by intro cfg _; change 2 = opcodeLength cfg 0xF7#8; rfl
theorem sed : Statement .sed := by intro cfg _; change 1 = opcodeLength cfg 0xF8#8; rfl
theorem sbcAbsy (nnnn : Word) : Statement (.sbcAbsy nnnn) := by intro cfg _; change 3 = opcodeLength cfg 0xF9#8; rfl
theorem plx : Statement .plx := by intro cfg _; change 1 = opcodeLength cfg 0xFA#8; rfl
theorem plz : Statement .plz := by intro cfg _; change 1 = opcodeLength cfg 0xFB#8; rfl
theorem phwAbs (nnnn : Word) : Statement (.phwAbs nnnn) := by intro cfg _; change 3 = opcodeLength cfg 0xFC#8; rfl
theorem sbcAbsx (nnnn : Word) : Statement (.sbcAbsx nnnn) := by intro cfg _; change 3 = opcodeLength cfg 0xFD#8; rfl
theorem incAbsx (nnnn : Word) : Statement (.incAbsx nnnn) := by intro cfg _; change 3 = opcodeLength cfg 0xFE#8; rfl
theorem bbs7 (nn : Byte) (dd : Byte) : Statement (.bbs7 nn dd) := by intro cfg _; change 3 = opcodeLength cfg 0xFF#8; rfl

end EncodedLength

end Sys2Proof.Laws
end

