-- ==== Sys2Proof/Tests/Slice0.lean ====
section
/-! SUPPORT. Tests. Expected results come from the spec: the opcode map of 31_opcode_map.md (R81, R82, R89), and
the vectors of 95_test_vectors.md, whose number each test carries. Then, for every obligation with
hypotheses, a state and operands that meet them. -/

namespace Sys2Proof.Tests

open Sys2Proof.Machine Sys2Proof.Claims

/-! Well-formedness. INW and DEW have the operand form that their parameter selects (R96). -/

theorem test_wf_inw_bp_refused : (Instr.inw (.bp 0x10#8)).wellFormed Config.default = false := by decide
theorem test_wf_inw_abs : (Instr.inw (.abs 0x3000#16)).wellFormed Config.default = true := by decide
theorem test_wf_inw_abs_refused :
    (Instr.inw (.abs 0x3000#16)).wellFormed { Config.default with inwOperand := .bp } = false := by decide
theorem test_wf_dew_abs_refused : (Instr.dew (.abs 0x3000#16)).wellFormed Config.default = false := by decide
theorem test_wf_dew_bp : (Instr.dew (.bp 0x10#8)).wellFormed Config.default = true := by decide
theorem test_wf_dew_bp_refused :
    (Instr.dew (.bp 0x10#8)).wellFormed { Config.default with dewOperand := .abs } = false := by decide
theorem test_wf_others : Instr.brk.wellFormed Config.default = true := by decide

/-! Decoding: the bytes of every opcode (R81, R89), followed by a byte that is none of its own. An operand byte
is 34, an operand word `34 12` is `$1234` (R84), the bytes of `nn dd` are `34 FD`. -/

/-- Each list of bytes decodes to its instruction and leaves what follows. -/
def decodesAll (l : List (List Byte × Instr)) : Bool :=
  l.all fun r => decide (decode Config.default (r.1 ++ [0xEA#8]) = .ok (r.2, [0xEA#8]))

theorem test_decode_row_0 : decodesAll [
    ([0x00#8], .brk), ([0x01#8, 0x34#8], .oraIndx 0x34#8),
    ([0x02#8], .cle), ([0x03#8], .see),
    ([0x04#8, 0x34#8], .tsbBp 0x34#8), ([0x05#8, 0x34#8], .oraBp 0x34#8),
    ([0x06#8, 0x34#8], .aslBp 0x34#8), ([0x07#8, 0x34#8], .rmb0 0x34#8),
    ([0x08#8], .php), ([0x09#8, 0x34#8], .oraImm 0x34#8),
    ([0x0A#8], .aslAcc), ([0x0B#8], .tsy),
    ([0x0C#8, 0x34#8, 0x12#8], .tsbAbs 0x1234#16), ([0x0D#8, 0x34#8, 0x12#8], .oraAbs 0x1234#16),
    ([0x0E#8, 0x34#8, 0x12#8], .aslAbs 0x1234#16), ([0x0F#8, 0x34#8, 0xFD#8], .bbr0 0x34#8 0xFD#8)] = true := by decide

theorem test_decode_row_1 : decodesAll [
    ([0x10#8, 0x34#8], .bplRel8 0x34#8), ([0x11#8, 0x34#8], .oraIndy 0x34#8),
    ([0x12#8, 0x34#8], .oraIndz 0x34#8), ([0x13#8, 0x34#8, 0x12#8], .bplRel16 0x1234#16),
    ([0x14#8, 0x34#8], .trbBp 0x34#8), ([0x15#8, 0x34#8], .oraBpx 0x34#8),
    ([0x16#8, 0x34#8], .aslBpx 0x34#8), ([0x17#8, 0x34#8], .rmb1 0x34#8),
    ([0x18#8], .clc), ([0x19#8, 0x34#8, 0x12#8], .oraAbsy 0x1234#16),
    ([0x1A#8], .incAcc), ([0x1B#8], .inz),
    ([0x1C#8, 0x34#8, 0x12#8], .trbAbs 0x1234#16), ([0x1D#8, 0x34#8, 0x12#8], .oraAbsx 0x1234#16),
    ([0x1E#8, 0x34#8, 0x12#8], .aslAbsx 0x1234#16), ([0x1F#8, 0x34#8, 0xFD#8], .bbr1 0x34#8 0xFD#8)] = true := by decide

theorem test_decode_row_2 : decodesAll [
    ([0x20#8, 0x34#8, 0x12#8], .jsrAbs 0x1234#16), ([0x21#8, 0x34#8], .andIndx 0x34#8),
    ([0x22#8, 0x34#8, 0x12#8], .jsrAbsInd 0x1234#16), ([0x23#8, 0x34#8, 0x12#8], .jsrAbsxInd 0x1234#16),
    ([0x24#8, 0x34#8], .bitBp 0x34#8), ([0x25#8, 0x34#8], .andBp 0x34#8),
    ([0x26#8, 0x34#8], .rolBp 0x34#8), ([0x27#8, 0x34#8], .rmb2 0x34#8),
    ([0x28#8], .plp), ([0x29#8, 0x34#8], .andImm 0x34#8),
    ([0x2A#8], .rolAcc), ([0x2B#8], .tys),
    ([0x2C#8, 0x34#8, 0x12#8], .bitAbs 0x1234#16), ([0x2D#8, 0x34#8, 0x12#8], .andAbs 0x1234#16),
    ([0x2E#8, 0x34#8, 0x12#8], .rolAbs 0x1234#16), ([0x2F#8, 0x34#8, 0xFD#8], .bbr2 0x34#8 0xFD#8)] = true := by decide

theorem test_decode_row_3 : decodesAll [
    ([0x30#8, 0x34#8], .bmiRel8 0x34#8), ([0x31#8, 0x34#8], .andIndy 0x34#8),
    ([0x32#8, 0x34#8], .andIndz 0x34#8), ([0x33#8, 0x34#8, 0x12#8], .bmiRel16 0x1234#16),
    ([0x34#8, 0x34#8], .bitBpx 0x34#8), ([0x35#8, 0x34#8], .andBpx 0x34#8),
    ([0x36#8, 0x34#8], .rolBpx 0x34#8), ([0x37#8, 0x34#8], .rmb3 0x34#8),
    ([0x38#8], .sec), ([0x39#8, 0x34#8, 0x12#8], .andAbsy 0x1234#16),
    ([0x3A#8], .decAcc), ([0x3B#8], .dez),
    ([0x3C#8, 0x34#8, 0x12#8], .bitAbsx 0x1234#16), ([0x3D#8, 0x34#8, 0x12#8], .andAbsx 0x1234#16),
    ([0x3E#8, 0x34#8, 0x12#8], .rolAbsx 0x1234#16), ([0x3F#8, 0x34#8, 0xFD#8], .bbr3 0x34#8 0xFD#8)] = true := by decide

theorem test_decode_row_4 : decodesAll [
    ([0x40#8], .rti), ([0x41#8, 0x34#8], .eorIndx 0x34#8),
    ([0x42#8], .neg), ([0x43#8], .asrAcc),
    ([0x44#8, 0x34#8], .asrBp 0x34#8), ([0x45#8, 0x34#8], .eorBp 0x34#8),
    ([0x46#8, 0x34#8], .lsrBp 0x34#8), ([0x47#8, 0x34#8], .rmb4 0x34#8),
    ([0x48#8], .pha), ([0x49#8, 0x34#8], .eorImm 0x34#8),
    ([0x4A#8], .lsrAcc), ([0x4B#8], .taz),
    ([0x4C#8, 0x34#8, 0x12#8], .jmpAbs 0x1234#16), ([0x4D#8, 0x34#8, 0x12#8], .eorAbs 0x1234#16),
    ([0x4E#8, 0x34#8, 0x12#8], .lsrAbs 0x1234#16), ([0x4F#8, 0x34#8, 0xFD#8], .bbr4 0x34#8 0xFD#8)] = true := by decide

theorem test_decode_row_5 : decodesAll [
    ([0x50#8, 0x34#8], .bvcRel8 0x34#8), ([0x51#8, 0x34#8], .eorIndy 0x34#8),
    ([0x52#8, 0x34#8], .eorIndz 0x34#8), ([0x53#8, 0x34#8, 0x12#8], .bvcRel16 0x1234#16),
    ([0x54#8, 0x34#8], .asrBpx 0x34#8), ([0x55#8, 0x34#8], .eorBpx 0x34#8),
    ([0x56#8, 0x34#8], .lsrBpx 0x34#8), ([0x57#8, 0x34#8], .rmb5 0x34#8),
    ([0x58#8], .cli), ([0x59#8, 0x34#8, 0x12#8], .eorAbsy 0x1234#16),
    ([0x5A#8], .phy), ([0x5B#8], .tab),
    ([0x5C#8], .map), ([0x5D#8, 0x34#8, 0x12#8], .eorAbsx 0x1234#16),
    ([0x5E#8, 0x34#8, 0x12#8], .lsrAbsx 0x1234#16), ([0x5F#8, 0x34#8, 0xFD#8], .bbr5 0x34#8 0xFD#8)] = true := by decide

theorem test_decode_row_6 : decodesAll [
    ([0x60#8], .rts), ([0x61#8, 0x34#8], .adcIndx 0x34#8),
    ([0x62#8, 0x34#8], .rtsImm 0x34#8), ([0x63#8, 0x34#8, 0x12#8], .bsr 0x1234#16),
    ([0x64#8, 0x34#8], .stzBp 0x34#8), ([0x65#8, 0x34#8], .adcBp 0x34#8),
    ([0x66#8, 0x34#8], .rorBp 0x34#8), ([0x67#8, 0x34#8], .rmb6 0x34#8),
    ([0x68#8], .pla), ([0x69#8, 0x34#8], .adcImm 0x34#8),
    ([0x6A#8], .rorAcc), ([0x6B#8], .tza),
    ([0x6C#8, 0x34#8, 0x12#8], .jmpAbsInd 0x1234#16), ([0x6D#8, 0x34#8, 0x12#8], .adcAbs 0x1234#16),
    ([0x6E#8, 0x34#8, 0x12#8], .rorAbs 0x1234#16), ([0x6F#8, 0x34#8, 0xFD#8], .bbr6 0x34#8 0xFD#8)] = true := by decide

theorem test_decode_row_7 : decodesAll [
    ([0x70#8, 0x34#8], .bvsRel8 0x34#8), ([0x71#8, 0x34#8], .adcIndy 0x34#8),
    ([0x72#8, 0x34#8], .adcIndz 0x34#8), ([0x73#8, 0x34#8, 0x12#8], .bvsRel16 0x1234#16),
    ([0x74#8, 0x34#8], .stzBpx 0x34#8), ([0x75#8, 0x34#8], .adcBpx 0x34#8),
    ([0x76#8, 0x34#8], .rorBpx 0x34#8), ([0x77#8, 0x34#8], .rmb7 0x34#8),
    ([0x78#8], .sei), ([0x79#8, 0x34#8, 0x12#8], .adcAbsy 0x1234#16),
    ([0x7A#8], .ply), ([0x7B#8], .tba),
    ([0x7C#8, 0x34#8, 0x12#8], .jmpAbsxInd 0x1234#16), ([0x7D#8, 0x34#8, 0x12#8], .adcAbsx 0x1234#16),
    ([0x7E#8, 0x34#8, 0x12#8], .rorAbsx 0x1234#16), ([0x7F#8, 0x34#8, 0xFD#8], .bbr7 0x34#8 0xFD#8)] = true := by decide

theorem test_decode_row_8 : decodesAll [
    ([0x80#8, 0x34#8], .braRel8 0x34#8), ([0x81#8, 0x34#8], .staIndx 0x34#8),
    ([0x82#8, 0x34#8], .staIndsp 0x34#8), ([0x83#8, 0x34#8, 0x12#8], .braRel16 0x1234#16),
    ([0x84#8, 0x34#8], .styBp 0x34#8), ([0x85#8, 0x34#8], .staBp 0x34#8),
    ([0x86#8, 0x34#8], .stxBp 0x34#8), ([0x87#8, 0x34#8], .smb0 0x34#8),
    ([0x88#8], .dey), ([0x89#8, 0x34#8], .bitImm 0x34#8),
    ([0x8A#8], .txa), ([0x8B#8, 0x34#8, 0x12#8], .styAbsx 0x1234#16),
    ([0x8C#8, 0x34#8, 0x12#8], .styAbs 0x1234#16), ([0x8D#8, 0x34#8, 0x12#8], .staAbs 0x1234#16),
    ([0x8E#8, 0x34#8, 0x12#8], .stxAbs 0x1234#16), ([0x8F#8, 0x34#8, 0xFD#8], .bbs0 0x34#8 0xFD#8)] = true := by decide

theorem test_decode_row_9 : decodesAll [
    ([0x90#8, 0x34#8], .bccRel8 0x34#8), ([0x91#8, 0x34#8], .staIndy 0x34#8),
    ([0x92#8, 0x34#8], .staIndz 0x34#8), ([0x93#8, 0x34#8, 0x12#8], .bccRel16 0x1234#16),
    ([0x94#8, 0x34#8], .styBpx 0x34#8), ([0x95#8, 0x34#8], .staBpx 0x34#8),
    ([0x96#8, 0x34#8], .stxBpy 0x34#8), ([0x97#8, 0x34#8], .smb1 0x34#8),
    ([0x98#8], .tya), ([0x99#8, 0x34#8, 0x12#8], .staAbsy 0x1234#16),
    ([0x9A#8], .txs), ([0x9B#8, 0x34#8, 0x12#8], .stxAbsy 0x1234#16),
    ([0x9C#8, 0x34#8, 0x12#8], .stzAbs 0x1234#16), ([0x9D#8, 0x34#8, 0x12#8], .staAbsx 0x1234#16),
    ([0x9E#8, 0x34#8, 0x12#8], .stzAbsx 0x1234#16), ([0x9F#8, 0x34#8, 0xFD#8], .bbs1 0x34#8 0xFD#8)] = true := by decide

theorem test_decode_row_A : decodesAll [
    ([0xA0#8, 0x34#8], .ldyImm 0x34#8), ([0xA1#8, 0x34#8], .ldaIndx 0x34#8),
    ([0xA2#8, 0x34#8], .ldxImm 0x34#8), ([0xA3#8, 0x34#8], .ldzImm 0x34#8),
    ([0xA4#8, 0x34#8], .ldyBp 0x34#8), ([0xA5#8, 0x34#8], .ldaBp 0x34#8),
    ([0xA6#8, 0x34#8], .ldxBp 0x34#8), ([0xA7#8, 0x34#8], .smb2 0x34#8),
    ([0xA8#8], .tay), ([0xA9#8, 0x34#8], .ldaImm 0x34#8),
    ([0xAA#8], .tax), ([0xAB#8, 0x34#8, 0x12#8], .ldzAbs 0x1234#16),
    ([0xAC#8, 0x34#8, 0x12#8], .ldyAbs 0x1234#16), ([0xAD#8, 0x34#8, 0x12#8], .ldaAbs 0x1234#16),
    ([0xAE#8, 0x34#8, 0x12#8], .ldxAbs 0x1234#16), ([0xAF#8, 0x34#8, 0xFD#8], .bbs2 0x34#8 0xFD#8)] = true := by decide

theorem test_decode_row_B : decodesAll [
    ([0xB0#8, 0x34#8], .bcsRel8 0x34#8), ([0xB1#8, 0x34#8], .ldaIndy 0x34#8),
    ([0xB2#8, 0x34#8], .ldaIndz 0x34#8), ([0xB3#8, 0x34#8, 0x12#8], .bcsRel16 0x1234#16),
    ([0xB4#8, 0x34#8], .ldyBpx 0x34#8), ([0xB5#8, 0x34#8], .ldaBpx 0x34#8),
    ([0xB6#8, 0x34#8], .ldxBpy 0x34#8), ([0xB7#8, 0x34#8], .smb3 0x34#8),
    ([0xB8#8], .clv), ([0xB9#8, 0x34#8, 0x12#8], .ldaAbsy 0x1234#16),
    ([0xBA#8], .tsx), ([0xBB#8, 0x34#8, 0x12#8], .ldzAbsx 0x1234#16),
    ([0xBC#8, 0x34#8, 0x12#8], .ldyAbsx 0x1234#16), ([0xBD#8, 0x34#8, 0x12#8], .ldaAbsx 0x1234#16),
    ([0xBE#8, 0x34#8, 0x12#8], .ldxAbsy 0x1234#16), ([0xBF#8, 0x34#8, 0xFD#8], .bbs3 0x34#8 0xFD#8)] = true := by decide

theorem test_decode_row_C : decodesAll [
    ([0xC0#8, 0x34#8], .cpyImm 0x34#8), ([0xC1#8, 0x34#8], .cmpIndx 0x34#8),
    ([0xC2#8, 0x34#8], .cpzImm 0x34#8), ([0xC3#8, 0x34#8], .dew (.bp 0x34#8)),
    ([0xC4#8, 0x34#8], .cpyBp 0x34#8), ([0xC5#8, 0x34#8], .cmpBp 0x34#8),
    ([0xC6#8, 0x34#8], .decBp 0x34#8), ([0xC7#8, 0x34#8], .smb4 0x34#8),
    ([0xC8#8], .iny), ([0xC9#8, 0x34#8], .cmpImm 0x34#8),
    ([0xCA#8], .dex), ([0xCB#8, 0x34#8, 0x12#8], .asw 0x1234#16),
    ([0xCC#8, 0x34#8, 0x12#8], .cpyAbs 0x1234#16), ([0xCD#8, 0x34#8, 0x12#8], .cmpAbs 0x1234#16),
    ([0xCE#8, 0x34#8, 0x12#8], .decAbs 0x1234#16), ([0xCF#8, 0x34#8, 0xFD#8], .bbs4 0x34#8 0xFD#8)] = true := by decide

theorem test_decode_row_D : decodesAll [
    ([0xD0#8, 0x34#8], .bneRel8 0x34#8), ([0xD1#8, 0x34#8], .cmpIndy 0x34#8),
    ([0xD2#8, 0x34#8], .cmpIndz 0x34#8), ([0xD3#8, 0x34#8, 0x12#8], .bneRel16 0x1234#16),
    ([0xD4#8, 0x34#8], .cpzBp 0x34#8), ([0xD5#8, 0x34#8], .cmpBpx 0x34#8),
    ([0xD6#8, 0x34#8], .decBpx 0x34#8), ([0xD7#8, 0x34#8], .smb5 0x34#8),
    ([0xD8#8], .cld), ([0xD9#8, 0x34#8, 0x12#8], .cmpAbsy 0x1234#16),
    ([0xDA#8], .phx), ([0xDB#8], .phz),
    ([0xDC#8, 0x34#8, 0x12#8], .cpzAbs 0x1234#16), ([0xDD#8, 0x34#8, 0x12#8], .cmpAbsx 0x1234#16),
    ([0xDE#8, 0x34#8, 0x12#8], .decAbsx 0x1234#16), ([0xDF#8, 0x34#8, 0xFD#8], .bbs5 0x34#8 0xFD#8)] = true := by decide

theorem test_decode_row_E : decodesAll [
    ([0xE0#8, 0x34#8], .cpxImm 0x34#8), ([0xE1#8, 0x34#8], .sbcIndx 0x34#8),
    ([0xE2#8, 0x34#8], .ldaIndsp 0x34#8), ([0xE3#8, 0x34#8, 0x12#8], .inw (.abs 0x1234#16)),
    ([0xE4#8, 0x34#8], .cpxBp 0x34#8), ([0xE5#8, 0x34#8], .sbcBp 0x34#8),
    ([0xE6#8, 0x34#8], .incBp 0x34#8), ([0xE7#8, 0x34#8], .smb6 0x34#8),
    ([0xE8#8], .inx), ([0xE9#8, 0x34#8], .sbcImm 0x34#8),
    ([0xEA#8], .nop), ([0xEB#8, 0x34#8, 0x12#8], .row 0x1234#16),
    ([0xEC#8, 0x34#8, 0x12#8], .cpxAbs 0x1234#16), ([0xED#8, 0x34#8, 0x12#8], .sbcAbs 0x1234#16),
    ([0xEE#8, 0x34#8, 0x12#8], .incAbs 0x1234#16), ([0xEF#8, 0x34#8, 0xFD#8], .bbs6 0x34#8 0xFD#8)] = true := by decide

theorem test_decode_row_F : decodesAll [
    ([0xF0#8, 0x34#8], .beqRel8 0x34#8), ([0xF1#8, 0x34#8], .sbcIndy 0x34#8),
    ([0xF2#8, 0x34#8], .sbcIndz 0x34#8), ([0xF3#8, 0x34#8, 0x12#8], .beqRel16 0x1234#16),
    ([0xF4#8, 0x34#8, 0x12#8], .phwImm16 0x1234#16), ([0xF5#8, 0x34#8], .sbcBpx 0x34#8),
    ([0xF6#8, 0x34#8], .incBpx 0x34#8), ([0xF7#8, 0x34#8], .smb7 0x34#8),
    ([0xF8#8], .sed), ([0xF9#8, 0x34#8, 0x12#8], .sbcAbsy 0x1234#16),
    ([0xFA#8], .plx), ([0xFB#8], .plz),
    ([0xFC#8, 0x34#8, 0x12#8], .phwAbs 0x1234#16), ([0xFD#8, 0x34#8, 0x12#8], .sbcAbsx 0x1234#16),
    ([0xFE#8, 0x34#8, 0x12#8], .incAbsx 0x1234#16), ([0xFF#8, 0x34#8, 0xFD#8], .bbs7 0x34#8 0xFD#8)] = true := by decide

theorem test_decode_inw_bp :
    decode { Config.default with inwOperand := .bp } [0xE3#8, 0x10#8, 0xEA#8] =
      .ok (.inw (.bp 0x10#8), [0xEA#8]) := by decide
theorem test_decode_dew_abs :
    decode { Config.default with dewOperand := .abs } [0xC3#8, 0x00#8, 0x30#8] =
      .ok (.dew (.abs 0x3000#16), []) := by decide
theorem test_decode_empty : decode Config.default [] = .error .noOpcode := by decide
theorem test_decode_truncated :
    decode Config.default [0x4C#8, 0x00#8] = .error (.truncated 0x4C#8) := by decide
theorem test_table_word : decodeTableWord 16 0x7FA9 = some (.ldaImm 0x7F#8) := by decide
theorem test_table_word_short : decodeTableWord 8 0x7FA9 = some (.ldaImm 0#8) := by decide
theorem test_table_word_long : decodeTableWord 24 0xFD107F = some (.bbr7 0x10#8 0xFD#8) := by decide

/-! One step. -/

/-- Six flags, in the order N V D I Z C of the vectors. -/
def fl (n v d i z c : Nat) : Status := ⟨n == 1, v == 1, d == 1, i == 1, z == 1, c == 1⟩

/-- The start of a vector: SP is FF, the registers are 00, these bytes stand in memory. -/
def start (pc : Word) (p : Status) (cells : List (Nat × Nat)) : State :=
  { State.reset with
    sp := 0xFF#8
    pc := pc
    p := p
    mem := cells.foldl (fun m c => m.write c.1 (BitVec.ofNat 8 c.2)) [] }

/-- What one step leaves. -/
def after {α : Type} (s : State) (f : State → α) : Option α :=
  match step s with
  | .next t => some (f t)
  | _ => none

/-- VA3 (R112 R115) -/
theorem test_VA3 : after { start 0x1000#16 (fl 0 0 0 0 0 0) [(0x0010, 0x42), (0x2010, 0x99), (0x1000, 0xA5), (0x1001, 0x10)] with b := 0x20#8 }
    (fun t => (t.a, t.pc, t.p)) = some (0x99#8, 0x1002#16, (fl 1 0 0 0 0 0)) := by decide
/-- VA8 (R119) -/
theorem test_VA8 : after { start 0x1000#16 (fl 0 0 0 0 0 0) [(0x0001, 0x77), (0x1000, 0xBD), (0x1001, 0xFF), (0x1002, 0xFF)] with x := 0x02#8 }
    (fun t => (t.a, t.pc, t.p)) = some (0x77#8, 0x1003#16, (fl 0 0 0 0 0 0)) := by decide
/-- VA10 (R121) -/
theorem test_VA10 : after { start 0x1000#16 (fl 0 0 0 0 0 0) [(0x0000, 0x40), (0x0100, 0x50), (0x4000, 0xAB), (0x5000, 0xCD), (0x1000, 0xA1), (0x1001, 0xFE)] with x := 0x01#8 }
    (fun t => (t.a, t.pc, t.p)) = some (0xAB#8, 0x1002#16, (fl 1 0 0 0 0 0)) := by decide
/-- VA12 (R124) -/
theorem test_VA12 : after { start 0x1000#16 (fl 0 0 0 0 0 0) [(0x0000, 0x20), (0x0100, 0x30), (0x2001, 0x0F), (0x3001, 0xF0), (0x1000, 0xB1), (0x1001, 0xFF)] with y := 0x01#8 }
    (fun t => (t.a, t.pc, t.p)) = some (0x0F#8, 0x1002#16, (fl 0 0 0 0 0 0)) := by decide
/-- VA15 (R122 R112) -/
theorem test_VA15 : after { start 0x1000#16 (fl 0 0 0 0 0 0) [(0x0000, 0x9E), (0x0740, 0xFF), (0x0741, 0xFF), (0x1000, 0xB2), (0x1001, 0x40)] with z := 0x01#8, b := 0x07#8 }
    (fun t => (t.a, t.pc, t.p)) = some (0x9E#8, 0x1002#16, (fl 1 0 0 0 0 0)) := by decide
/-- VA17 (R123) -/
theorem test_VA17 : after (start 0x1000#16 (fl 0 0 0 0 0 0) [(0x0001, 0xEE), (0x0101, 0xEE), (0x0202, 0x40), (0x4000, 0x21), (0x1000, 0xE2), (0x1001, 0x02)])
    (fun t => (t.a, t.pc, t.p)) = some (0x21#8, 0x1002#16, (fl 0 0 0 0 0 0)) := by decide
/-- VA18 (R123) -/
theorem test_VA18 : after { start 0x1000#16 (fl 0 0 0 0 0 0) [(0x01FF, 0x30), (0x1000, 0x82), (0x1001, 0x03)] with a := 0xC4#8, y := 0x01#8, sp := 0xFB#8 }
    (fun t => (t.pc, t.p, t.readByte 0x3001#16)) = some (0x1002#16, (fl 0 0 0 0 0 0), 0xC4#8) := by decide
/-- VA19 (R128) -/
theorem test_VA19 : after (start 0x1000#16 (fl 0 0 0 0 0 0) [(0x3000, 0x99), (0x30FF, 0x34), (0x3100, 0x12), (0x1000, 0x6C), (0x1001, 0xFF), (0x1002, 0x30)])
    (fun t => (t.pc, t.p)) = some (0x1234#16, (fl 0 0 0 0 0 0)) := by decide
/-- VA20 (R129) -/
theorem test_VA20 : after { start 0x1000#16 (fl 0 0 0 0 0 0) [(0x0002, 0x78), (0x0003, 0x56), (0x1000, 0x7C), (0x1001, 0xFE), (0x1002, 0xFF)] with x := 0x04#8 }
    (fun t => (t.pc, t.p)) = some (0x5678#16, (fl 0 0 0 0 0 0)) := by decide
/-- VL3 (R141) -/
theorem test_VL3 : after { start 0x1000#16 (fl 1 0 0 0 0 1) [(0x1000, 0xA2), (0x1001, 0x00)] with x := 0x01#8 }
    (fun t => (t.x, t.pc, t.p)) = some (0x00#8, 0x1002#16, (fl 0 0 0 0 1 1)) := by decide
/-- VL5 (R142) -/
theorem test_VL5 : after { start 0x1000#16 (fl 0 0 0 0 0 0) [(0x0011, 0x7F), (0x1000, 0xB4), (0x1001, 0x10)] with x := 0x01#8 }
    (fun t => (t.y, t.pc, t.p)) = some (0x7F#8, 0x1002#16, (fl 0 0 0 0 0 0)) := by decide
/-- VL6 (R143) -/
theorem test_VL6 : after (start 0x1000#16 (fl 0 0 0 0 0 0) [(0x1000, 0xA3), (0x1001, 0x05)])
    (fun t => (t.z, t.pc, t.p)) = some (0x05#8, 0x1002#16, (fl 0 0 0 0 0 0)) := by decide
/-- VL11 (R145) -/
theorem test_VL11 : after { start 0x1000#16 (fl 0 0 0 0 0 0) [(0x1000, 0x9B), (0x1001, 0x00), (0x1002, 0x30)] with x := 0x07#8, y := 0x02#8 }
    (fun t => (t.pc, t.p, t.readByte 0x3002#16)) = some (0x1003#16, (fl 0 0 0 0 0 0), 0x07#8) := by decide
/-- VL13 (R146) -/
theorem test_VL13 : after { start 0x1000#16 (fl 0 0 0 0 0 0) [(0x1000, 0x8B), (0x1001, 0x00), (0x1002, 0x30)] with x := 0x01#8, y := 0x09#8 }
    (fun t => (t.pc, t.p, t.readByte 0x3001#16)) = some (0x1003#16, (fl 0 0 0 0 0 0), 0x09#8) := by decide
/-- VL14 (R147) -/
theorem test_VL14 : after (start 0x1000#16 (fl 0 0 0 0 0 0) [(0x0010, 0xFF), (0x1000, 0x64), (0x1001, 0x10)])
    (fun t => (t.pc, t.p, t.readByte 0x0010#16)) = some (0x1002#16, (fl 0 0 0 0 0 0), 0x00#8) := by decide
/-- VT1 (R160) -/
theorem test_VT1 : after { start 0x1000#16 (fl 0 0 0 0 0 0) [(0x1000, 0xAA)] with a := 0x80#8 }
    (fun t => (t.x, t.pc, t.p)) = some (0x80#8, 0x1001#16, (fl 1 0 0 0 0 0)) := by decide
/-- VT2 (R161) -/
theorem test_VT2 : after { start 0x1000#16 (fl 0 0 0 0 0 0) [(0x1000, 0xA8)] with y := 0x33#8 }
    (fun t => (t.y, t.pc, t.p)) = some (0x00#8, 0x1001#16, (fl 0 0 0 0 1 0)) := by decide
/-- VT3 (R162) -/
theorem test_VT3 : after { start 0x1000#16 (fl 0 0 0 0 0 0) [(0x1000, 0x4B)] with a := 0x7F#8 }
    (fun t => (t.z, t.pc, t.p)) = some (0x7F#8, 0x1001#16, (fl 0 0 0 0 0 0)) := by decide
/-- VT4 (R163) -/
theorem test_VT4 : after { start 0x1000#16 (fl 0 0 0 0 1 0) [(0x1000, 0x5B)] with a := 0x80#8 }
    (fun t => (t.b, t.pc, t.p)) = some (0x80#8, 0x1001#16, (fl 0 0 0 0 1 0)) := by decide
/-- VT5 (R164) -/
theorem test_VT5 : after { start 0x1000#16 (fl 0 0 0 0 0 0) [(0x1000, 0x7B)] with a := 0x01#8, b := 0x80#8 }
    (fun t => (t.a, t.pc, t.p)) = some (0x80#8, 0x1001#16, (fl 1 0 0 0 0 0)) := by decide
/-- VT7 (R165) -/
theorem test_VT7 : after { start 0x1000#16 (fl 0 0 0 0 0 0) [(0x1000, 0x8A)] with a := 0x01#8 }
    (fun t => (t.a, t.pc, t.p)) = some (0x00#8, 0x1001#16, (fl 0 0 0 0 1 0)) := by decide
/-- VT8 (R166) -/
theorem test_VT8 : after { start 0x1000#16 (fl 0 0 0 0 0 0) [(0x1000, 0x98)] with y := 0xFF#8 }
    (fun t => (t.a, t.pc, t.p)) = some (0xFF#8, 0x1001#16, (fl 1 0 0 0 0 0)) := by decide
/-- VT9 (R167) -/
theorem test_VT9 : after { start 0x1000#16 (fl 1 0 0 0 0 0) [(0x1000, 0x6B)] with a := 0xFF#8, z := 0x12#8 }
    (fun t => (t.a, t.pc, t.p)) = some (0x12#8, 0x1001#16, (fl 0 0 0 0 0 0)) := by decide
/-- VT10 (R168) -/
theorem test_VT10 : after { start 0x1000#16 (fl 0 0 0 0 0 0) [(0x1000, 0xBA)] with x := 0x55#8, sp := 0x00#8 }
    (fun t => (t.x, t.pc, t.p)) = some (0x00#8, 0x1001#16, (fl 0 0 0 0 1 0)) := by decide
/-- VT11 (R169) -/
theorem test_VT11 : after (start 0x1000#16 (fl 1 0 0 0 0 0) [(0x1000, 0x9A)])
    (fun t => (t.sp, t.pc, t.p)) = some (0x00#8, 0x1001#16, (fl 1 0 0 0 0 0)) := by decide
/-- VT12 (R170) -/
theorem test_VT12 : after { start 0x1000#16 (fl 0 0 0 0 0 0) [(0x1000, 0x0B)] with sp := 0xF0#8 }
    (fun t => (t.y, t.pc, t.p)) = some (0xF0#8, 0x1001#16, (fl 1 0 0 0 0 0)) := by decide
/-- VT13 (R171) -/
theorem test_VT13 : after { start 0x1000#16 (fl 0 0 0 0 0 0) [(0x1000, 0x2B)] with y := 0x80#8 }
    (fun t => (t.sp, t.pc, t.p)) = some (0x80#8, 0x1001#16, (fl 0 0 0 0 0 0)) := by decide
/-- VT15 (R172) -/
theorem test_VT15 : after { start 0x1000#16 (fl 0 0 0 0 0 0) [(0x1000, 0x48)] with a := 0x42#8, sp := 0x00#8 }
    (fun t => (t.sp, t.pc, t.p, t.readByte 0x0100#16)) = some (0xFF#8, 0x1001#16, (fl 0 0 0 0 0 0), 0x42#8) := by decide
/-- VT16 (R173) -/
theorem test_VT16 : after (start 0x1000#16 (fl 1 1 1 1 1 1) [(0x1000, 0x08)])
    (fun t => (t.sp, t.pc, t.p, t.readByte 0x01FF#16)) = some (0xFE#8, 0x1001#16, (fl 1 1 1 1 1 1), 0xFF#8) := by decide
/-- VT18 (R174) -/
theorem test_VT18 : after { start 0x1000#16 (fl 0 0 0 0 0 0) [(0x1000, 0xDA)] with x := 0x11#8, sp := 0x80#8 }
    (fun t => (t.sp, t.pc, t.p, t.readByte 0x0180#16)) = some (0x7F#8, 0x1001#16, (fl 0 0 0 0 0 0), 0x11#8) := by decide
/-- VT19 (R175) -/
theorem test_VT19 : after { start 0x1000#16 (fl 0 0 0 0 0 0) [(0x1000, 0x5A)] with y := 0x22#8 }
    (fun t => (t.sp, t.pc, t.p, t.readByte 0x01FF#16)) = some (0xFE#8, 0x1001#16, (fl 0 0 0 0 0 0), 0x22#8) := by decide
/-- VT20 (R176) -/
theorem test_VT20 : after { start 0x1000#16 (fl 0 0 0 0 0 0) [(0x1000, 0xDB)] with z := 0x33#8 }
    (fun t => (t.sp, t.pc, t.p, t.readByte 0x01FF#16)) = some (0xFE#8, 0x1001#16, (fl 0 0 0 0 0 0), 0x33#8) := by decide
/-- VT22 (R177) -/
theorem test_VT22 : after { start 0x1000#16 (fl 0 0 0 0 0 0) [(0x3000, 0xCD), (0x3001, 0xAB), (0x1000, 0xFC), (0x1001, 0x00), (0x1002, 0x30)] with sp := 0x00#8 }
    (fun t => (t.sp, t.pc, t.p, t.readByte 0x0100#16, t.readByte 0x01FF#16)) = some (0xFE#8, 0x1003#16, (fl 0 0 0 0 0 0), 0xAB#8, 0xCD#8) := by decide
/-- VT24 (R178) -/
theorem test_VT24 : after (start 0x1000#16 (fl 0 0 0 0 0 0) [(0x0100, 0x80), (0x1000, 0x68)])
    (fun t => (t.a, t.sp, t.pc, t.p)) = some (0x80#8, 0x00#8, 0x1001#16, (fl 1 0 0 0 0 0)) := by decide
/-- VT26 (R179) -/
theorem test_VT26 : after { start 0x1000#16 (fl 1 1 1 1 1 1) [(0x01FF, 0x30), (0x1000, 0x28)] with sp := 0xFE#8 }
    (fun t => (t.sp, t.pc, t.p)) = some (0xFF#8, 0x1001#16, (fl 0 0 0 0 0 0)) := by decide
/-- VT27 (R180) -/
theorem test_VT27 : after { start 0x1000#16 (fl 0 0 0 0 0 0) [(0x01FF, 0x80), (0x1000, 0xFA)] with sp := 0xFE#8 }
    (fun t => (t.x, t.sp, t.pc, t.p)) = some (0x80#8, 0xFF#8, 0x1001#16, (fl 1 0 0 0 0 0)) := by decide
/-- VT28 (R181) -/
theorem test_VT28 : after { start 0x1000#16 (fl 0 0 0 0 0 0) [(0x01FF, 0x01), (0x1000, 0x7A)] with sp := 0xFE#8 }
    (fun t => (t.y, t.sp, t.pc, t.p)) = some (0x01#8, 0xFF#8, 0x1001#16, (fl 0 0 0 0 0 0)) := by decide
/-- VT29 (R182) -/
theorem test_VT29 : after { start 0x1000#16 (fl 0 0 0 0 0 0) [(0x1000, 0xFB)] with z := 0x44#8, sp := 0xFE#8 }
    (fun t => (t.z, t.sp, t.pc, t.p)) = some (0x00#8, 0xFF#8, 0x1001#16, (fl 0 0 0 0 1 0)) := by decide
/-- VM4 (R191) -/
theorem test_VM4 : after { start 0x1000#16 (fl 0 0 0 0 0 0) [(0x1000, 0x69), (0x1001, 0x80)] with a := 0x80#8 }
    (fun t => (t.a, t.pc, t.p)) = some (0x00#8, 0x1002#16, (fl 0 1 0 0 1 1)) := by decide
/-- VM10 (R192) -/
theorem test_VM10 : after { start 0x1000#16 (fl 0 0 1 0 0 1) [(0x1000, 0x69), (0x1001, 0x46)] with a := 0x58#8 }
    (fun t => (t.a, t.pc, t.p.n, t.p.z, t.p.c)) = some (0x05#8, 0x1002#16, false, false, true) := by decide
/-- VM12 (R193) -/
theorem test_VM12 : after { start 0x1000#16 (fl 0 0 0 0 0 1) [(0x1000, 0xE9), (0x1001, 0x01)] with a := 0x80#8 }
    (fun t => (t.a, t.pc, t.p)) = some (0x7F#8, 0x1002#16, (fl 0 1 0 0 0 1)) := by decide
/-- VM17 (R194) -/
theorem test_VM17 : after (start 0x1000#16 (fl 0 0 1 0 0 1) [(0x1000, 0xE9), (0x1001, 0x01)])
    (fun t => (t.a, t.pc, t.p.n, t.p.z, t.p.c)) = some (0x99#8, 0x1002#16, true, false, false) := by decide
/-- VM19 (R195) -/
theorem test_VM19 : after { start 0x1000#16 (fl 0 0 0 0 0 0) [(0x1000, 0x29), (0x1001, 0x0F)] with a := 0xF0#8 }
    (fun t => (t.a, t.pc, t.p)) = some (0x00#8, 0x1002#16, (fl 0 0 0 0 1 0)) := by decide
/-- VM20 (R196) -/
theorem test_VM20 : after { start 0x1000#16 (fl 0 0 0 0 0 0) [(0x1000, 0x09), (0x1001, 0x80)] with a := 0x01#8 }
    (fun t => (t.a, t.pc, t.p)) = some (0x81#8, 0x1002#16, (fl 1 0 0 0 0 0)) := by decide
/-- VM22 (R197) -/
theorem test_VM22 : after { start 0x1000#16 (fl 0 0 0 0 0 0) [(0x0040, 0xFF), (0x0041, 0x1F), (0x2000, 0xF0), (0x1000, 0x52), (0x1001, 0x40)] with a := 0x0F#8, z := 0x01#8 }
    (fun t => (t.a, t.pc, t.p)) = some (0xFF#8, 0x1002#16, (fl 1 0 0 0 0 0)) := by decide
/-- VM25 (R198) -/
theorem test_VM25 : after { start 0x1000#16 (fl 0 1 0 0 0 0) [(0x1000, 0xC9), (0x1001, 0x01)] with a := 0x80#8 }
    (fun t => (t.pc, t.p)) = some (0x1002#16, (fl 0 1 0 0 0 1)) := by decide
/-- VM26 (R199) -/
theorem test_VM26 : after { start 0x1000#16 (fl 0 0 0 0 0 0) [(0x1000, 0xE0), (0x1001, 0x10)] with x := 0x10#8 }
    (fun t => (t.pc, t.p)) = some (0x1002#16, (fl 0 0 0 0 1 1)) := by decide
/-- VM27 (R200) -/
theorem test_VM27 : after { start 0x1000#16 (fl 0 0 0 0 0 0) [(0x1000, 0xC0), (0x1001, 0x03)] with y := 0x05#8 }
    (fun t => (t.pc, t.p)) = some (0x1002#16, (fl 0 0 0 0 0 1)) := by decide
/-- VM28 (R201) -/
theorem test_VM28 : after { start 0x1000#16 (fl 0 0 0 0 0 0) [(0x1000, 0xC2), (0x1001, 0x80)] with z := 0x7F#8 }
    (fun t => (t.pc, t.p)) = some (0x1002#16, (fl 1 0 0 0 0 0)) := by decide
/-- VM31 (R202) -/
theorem test_VM31 : after { start 0x1000#16 (fl 1 0 0 0 0 0) [(0x2000, 0x41), (0x1000, 0x2C), (0x1001, 0x00), (0x1002, 0x20)] with a := 0xFF#8 }
    (fun t => (t.pc, t.p)) = some (0x1003#16, (fl 0 1 0 0 0 0)) := by decide
/-- VM33 (R202) -/
theorem test_VM33 : after { start 0x1000#16 (fl 0 0 0 0 0 0) [(0x1000, 0x89), (0x1001, 0xC0)] with a := 0x3F#8, cfg := { Config.default with bitImmWritesNV := true } }
    (fun t => (t.pc, t.p)) = some (0x1002#16, (fl 1 1 0 0 1 0)) := by decide
/-- VM37 (R203) -/
theorem test_VM37 : after { start 0x1000#16 (fl 0 1 0 0 0 0) [(0x1000, 0x42)] with a := 0x80#8 }
    (fun t => (t.pc, t.p)) = some (0x1001#16, (fl 1 1 0 0 0 0)) := by decide
/-- VM38 (R204) -/
theorem test_VM38 : after { start 0x1000#16 (fl 0 0 0 0 0 0) [(0x1000, 0x1A)] with a := 0xFF#8 }
    (fun t => (t.a, t.pc, t.p)) = some (0x00#8, 0x1001#16, (fl 0 0 0 0 1 0)) := by decide
/-- VM41 (R205) -/
theorem test_VM41 : after (start 0x1000#16 (fl 0 0 0 0 0 0) [(0x1000, 0x3A)])
    (fun t => (t.a, t.pc, t.p)) = some (0xFF#8, 0x1001#16, (fl 1 0 0 0 0 0)) := by decide
/-- VM43 (R206) -/
theorem test_VM43 : after { start 0x1000#16 (fl 0 0 0 0 0 0) [(0x1000, 0xE8)] with x := 0xFF#8 }
    (fun t => (t.x, t.pc, t.p)) = some (0x00#8, 0x1001#16, (fl 0 0 0 0 1 0)) := by decide
/-- VM44 (R207) -/
theorem test_VM44 : after { start 0x1000#16 (fl 0 0 0 0 0 0) [(0x1000, 0xC8)] with y := 0x7F#8 }
    (fun t => (t.y, t.pc, t.p)) = some (0x80#8, 0x1001#16, (fl 1 0 0 0 0 0)) := by decide
/-- VM45 (R208) -/
theorem test_VM45 : after { start 0x1000#16 (fl 0 0 0 0 0 0) [(0x1000, 0x1B)] with z := 0xFF#8 }
    (fun t => (t.z, t.pc, t.p)) = some (0x00#8, 0x1001#16, (fl 0 0 0 0 1 0)) := by decide
/-- VM46 (R209) -/
theorem test_VM46 : after (start 0x1000#16 (fl 0 0 0 0 0 0) [(0x1000, 0xCA)])
    (fun t => (t.x, t.pc, t.p)) = some (0xFF#8, 0x1001#16, (fl 1 0 0 0 0 0)) := by decide
/-- VM47 (R210) -/
theorem test_VM47 : after { start 0x1000#16 (fl 0 0 0 0 0 0) [(0x1000, 0x88)] with y := 0x01#8 }
    (fun t => (t.y, t.pc, t.p)) = some (0x00#8, 0x1001#16, (fl 0 0 0 0 1 0)) := by decide
/-- VM48 (R211) -/
theorem test_VM48 : after { start 0x1000#16 (fl 0 0 0 0 0 0) [(0x1000, 0x3B)] with z := 0x80#8 }
    (fun t => (t.z, t.pc, t.p)) = some (0x7F#8, 0x1001#16, (fl 0 0 0 0 0 0)) := by decide
/-- VM49 (R212) -/
theorem test_VM49 : after (start 0x1000#16 (fl 0 0 0 0 0 1) [(0x3000, 0xFF), (0x1000, 0xE3), (0x1001, 0x00), (0x1002, 0x30)])
    (fun t => (t.pc, t.p, t.readByte 0x3000#16, t.readByte 0x3001#16)) = some (0x1003#16, (fl 0 0 0 0 0 1), 0x00#8, 0x01#8) := by decide
/-- VM56 (R213) -/
theorem test_VM56 : after (start 0x1000#16 (fl 0 0 0 0 0 0) [(0x0000, 0x80), (0x0100, 0x55), (0x1000, 0xC3), (0x1001, 0xFF)])
    (fun t => (t.pc, t.p, t.readByte 0x00FF#16, t.readByte 0x0000#16)) = some (0x1002#16, (fl 0 0 0 0 0 0), 0xFF#8, 0x7F#8) := by decide
/-- VM57 (R213) -/
theorem test_VM57 : after { start 0x1000#16 (fl 0 0 0 0 0 0) [(0x3001, 0x80), (0x1000, 0xC3), (0x1001, 0x00), (0x1002, 0x30)] with cfg := { Config.default with dewOperand := .abs } }
    (fun t => (t.pc, t.p, t.readByte 0x3000#16, t.readByte 0x3001#16)) = some (0x1003#16, (fl 0 0 0 0 0 0), 0xFF#8, 0x7F#8) := by decide
/-- VS1 (R221) -/
theorem test_VS1 : after { start 0x1000#16 (fl 0 0 0 0 0 0) [(0x1000, 0x0A)] with a := 0x81#8 }
    (fun t => (t.a, t.pc, t.p)) = some (0x02#8, 0x1001#16, (fl 0 0 0 0 0 1)) := by decide
/-- VS5 (R222) -/
theorem test_VS5 : after { start 0x1000#16 (fl 0 0 0 0 0 0) [(0x1000, 0x4A)] with a := 0x01#8 }
    (fun t => (t.a, t.pc, t.p)) = some (0x00#8, 0x1001#16, (fl 0 0 0 0 1 1)) := by decide
/-- VS6 (R223) -/
theorem test_VS6 : after { start 0x1000#16 (fl 0 0 0 0 0 1) [(0x1000, 0x2A)] with a := 0x40#8 }
    (fun t => (t.a, t.pc, t.p)) = some (0x81#8, 0x1001#16, (fl 1 0 0 0 0 0)) := by decide
/-- VS9 (R224) -/
theorem test_VS9 : after { start 0x1000#16 (fl 0 0 0 0 0 1) [(0x1000, 0x6A)] with a := 0x02#8 }
    (fun t => (t.a, t.pc, t.p)) = some (0x81#8, 0x1001#16, (fl 1 0 0 0 0 0)) := by decide
/-- VS12 (R225) -/
theorem test_VS12 : after { start 0x1000#16 (fl 0 0 0 0 0 0) [(0x1000, 0x43)] with a := 0xB3#8 }
    (fun t => (t.a, t.pc, t.p)) = some (0xD9#8, 0x1001#16, (fl 1 0 0 0 0 1)) := by decide
/-- VS19 (R226) -/
theorem test_VS19 : after (start 0x1000#16 (fl 0 0 0 0 0 0) [(0xFFFF, 0x80), (0x1000, 0xCB), (0x1001, 0xFF), (0x1002, 0xFF)])
    (fun t => (t.pc, t.p, t.readByte 0xFFFF#16, t.readByte 0x0000#16)) = some (0x1003#16, (fl 0 0 0 0 0 0), 0x00#8, 0x01#8) := by decide
/-- VS20 (R227) -/
theorem test_VS20 : after (start 0x1000#16 (fl 0 0 0 0 0 0) [(0x3000, 0x01), (0x3001, 0x80), (0x1000, 0xEB), (0x1001, 0x00), (0x1002, 0x30)])
    (fun t => (t.pc, t.p, t.readByte 0x3000#16, t.readByte 0x3001#16)) = some (0x1003#16, (fl 0 0 0 0 0 1), 0x00#8, 0x40#8) := by decide
/-- VB1 (R240) -/
theorem test_VB1 : after { start 0x1000#16 (fl 0 0 0 0 0 0) [(0x0010, 0xCF), (0x1000, 0x14), (0x1001, 0x10)] with a := 0x0F#8 }
    (fun t => (t.pc, t.p, t.readByte 0x0010#16)) = some (0x1002#16, (fl 1 1 0 0 0 0), 0xC0#8) := by decide
/-- VB2 (R240) -/
theorem test_VB2 : after { start 0x1000#16 (fl 0 0 0 0 0 0) [(0x0010, 0xCF), (0x1000, 0x14), (0x1001, 0x10)] with a := 0x0F#8, cfg := { Config.default with trbTsbFlags := .wdc65c02 } }
    (fun t => (t.pc, t.p, t.readByte 0x0010#16)) = some (0x1002#16, (fl 0 0 0 0 0 0), 0xC0#8) := by decide
/-- VB5 (R241) -/
theorem test_VB5 : after { start 0x1000#16 (fl 0 0 0 0 0 0) [(0x2000, 0x40), (0x1000, 0x0C), (0x1001, 0x00), (0x1002, 0x20)] with a := 0x81#8 }
    (fun t => (t.pc, t.p, t.readByte 0x2000#16)) = some (0x1003#16, (fl 1 1 0 0 0 0), 0xC1#8) := by decide
/-- VB8 (R242) -/
theorem test_VB8 : after (start 0x1000#16 (fl 1 0 0 0 1 1) [(0x0020, 0xFF), (0x1000, 0x37), (0x1001, 0x20)])
    (fun t => (t.pc, t.p, t.readByte 0x0020#16)) = some (0x1002#16, (fl 1 0 0 0 1 1), 0xF7#8) := by decide
/-- VB9 (R242) -/
theorem test_VB9 : after (start 0x1000#16 (fl 0 0 0 0 0 0) [(0x0020, 0xFE), (0x1000, 0x07), (0x1001, 0x20)])
    (fun t => (t.pc, t.p, t.readByte 0x0020#16)) = some (0x1002#16, (fl 0 0 0 0 0 0), 0xFE#8) := by decide
/-- VB10 (R242 R112) -/
theorem test_VB10 : after { start 0x1000#16 (fl 0 0 0 0 0 0) [(0x0020, 0xFF), (0x1220, 0xFF), (0x1000, 0x77), (0x1001, 0x20)] with b := 0x12#8 }
    (fun t => (t.pc, t.p, t.readByte 0x1220#16)) = some (0x1002#16, (fl 0 0 0 0 0 0), 0x7F#8) := by decide
/-- VB11 (R243) -/
theorem test_VB11 : after (start 0x1000#16 (fl 0 0 0 0 0 0) [(0x1000, 0xF7), (0x1001, 0x20)])
    (fun t => (t.pc, t.p, t.readByte 0x0020#16)) = some (0x1002#16, (fl 0 0 0 0 0 0), 0x80#8) := by decide
/-- VB12 (R243) -/
theorem test_VB12 : after (start 0x1000#16 (fl 0 0 0 0 0 0) [(0x0020, 0x01), (0x1000, 0x87), (0x1001, 0x20)])
    (fun t => (t.pc, t.p, t.readByte 0x0020#16)) = some (0x1002#16, (fl 0 0 0 0 0 0), 0x01#8) := by decide
/-- VB13 (R244) -/
theorem test_VB13 : after (start 0xC000#16 (fl 0 0 0 0 0 0) [(0x0010, 0xFE), (0xC000, 0x0F), (0xC001, 0x10), (0xC002, 0x05)])
    (fun t => (t.pc, t.p)) = some (0xC008#16, (fl 0 0 0 0 0 0)) := by decide
/-- VB15 (R244) -/
theorem test_VB15 : after (start 0xC000#16 (fl 0 0 0 0 0 0) [(0x0010, 0x7F), (0xC000, 0x7F), (0xC001, 0x10), (0xC002, 0xFD)])
    (fun t => (t.pc, t.p)) = some (0xC000#16, (fl 0 0 0 0 0 0)) := by decide
/-- VB16 (R245) -/
theorem test_VB16 : after (start 0xC000#16 (fl 0 0 0 0 0 0) [(0x0010, 0x80), (0xC000, 0xFF), (0xC001, 0x10), (0xC002, 0xFB)])
    (fun t => (t.pc, t.p)) = some (0xBFFE#16, (fl 0 0 0 0 0 0)) := by decide
/-- VB17 (R245) -/
theorem test_VB17 : after (start 0xFFF0#16 (fl 0 0 0 0 0 0) [(0x0010, 0x01), (0xFFF0, 0x8F), (0xFFF1, 0x10), (0xFFF2, 0x7F)])
    (fun t => (t.pc, t.p)) = some (0x0072#16, (fl 0 0 0 0 0 0)) := by decide
/-- VB19 (R245 R112) -/
theorem test_VB19 : after { start 0x0200#16 (fl 0 0 0 0 0 0) [(0x0310, 0x08), (0x0200, 0xBF), (0x0201, 0x10), (0x0202, 0x80)] with b := 0x03#8 }
    (fun t => (t.pc, t.p)) = some (0x0183#16, (fl 0 0 0 0 0 0)) := by decide
/-- VC3 (R261) -/
theorem test_VC3 : after (start 0x1000#16 (fl 0 0 0 0 0 0) [(0x1000, 0x93), (0x1001, 0x00), (0x1002, 0x01)])
    (fun t => (t.pc, t.p)) = some (0x1103#16, (fl 0 0 0 0 0 0)) := by decide
/-- VC4 (R261) -/
theorem test_VC4 : after { start 0x1000#16 (fl 0 0 0 0 0 0) [(0x1000, 0x93), (0x1001, 0x00), (0x1002, 0x01)] with cfg := { Config.default with rel16Base := .two } }
    (fun t => (t.pc, t.p)) = some (0x1102#16, (fl 0 0 0 0 0 0)) := by decide
/-- VC5 (R262) -/
theorem test_VC5 : after (start 0x1000#16 (fl 0 0 0 0 0 1) [(0x1000, 0xB0), (0x1001, 0xFC)])
    (fun t => (t.pc, t.p)) = some (0x0FFE#16, (fl 0 0 0 0 0 1)) := by decide
/-- VC6 (R263) -/
theorem test_VC6 : after (start 0x2000#16 (fl 0 0 0 0 1 0) [(0x2000, 0xF0), (0x2001, 0x7F)])
    (fun t => (t.pc, t.p)) = some (0x2081#16, (fl 0 0 0 0 1 0)) := by decide
/-- VC7 (R264) -/
theorem test_VC7 : after (start 0x2000#16 (fl 1 0 0 0 0 0) [(0x2000, 0x30), (0x2001, 0x80)])
    (fun t => (t.pc, t.p)) = some (0x1F82#16, (fl 1 0 0 0 0 0)) := by decide
/-- VC8 (R265) -/
theorem test_VC8 : after (start 0x0200#16 (fl 0 0 0 0 0 0) [(0x0200, 0xD0), (0x0201, 0xFD)])
    (fun t => (t.pc, t.p)) = some (0x01FF#16, (fl 0 0 0 0 0 0)) := by decide
/-- VC9 (R266) -/
theorem test_VC9 : after (start 0xFFF0#16 (fl 0 0 0 0 0 0) [(0xFFF0, 0x10), (0xFFF1, 0x20)])
    (fun t => (t.pc, t.p)) = some (0x0012#16, (fl 0 0 0 0 0 0)) := by decide
/-- VC10 (R267) -/
theorem test_VC10 : after (start 0x1000#16 (fl 0 0 0 0 0 0) [(0x1000, 0x53), (0x1001, 0xFD), (0x1002, 0xFF)])
    (fun t => (t.pc, t.p)) = some (0x1000#16, (fl 0 0 0 0 0 0)) := by decide
/-- VC11 (R268) -/
theorem test_VC11 : after (start 0x1000#16 (fl 0 0 0 0 0 0) [(0x1000, 0x70), (0x1001, 0x10)])
    (fun t => (t.pc, t.p)) = some (0x1002#16, (fl 0 0 0 0 0 0)) := by decide
/-- VC13 (R269) -/
theorem test_VC13 : after (start 0x8000#16 (fl 0 0 0 0 0 0) [(0x8000, 0x80), (0x8001, 0xFE)])
    (fun t => (t.pc, t.p)) = some (0x8000#16, (fl 0 0 0 0 0 0)) := by decide
/-- VC17 (R270) -/
theorem test_VC17 : after { start 0x0000#16 (fl 0 0 0 0 0 0) [(0x0000, 0x63), (0x0001, 0xFD), (0x0002, 0xFF)] with sp := 0x00#8 }
    (fun t => (t.sp, t.pc, t.p, t.readByte 0x0100#16, t.readByte 0x01FF#16)) = some (0xFE#8, 0x0000#16, (fl 0 0 0 0 0 0), 0x00#8, 0x02#8) := by decide
/-- VC20 (R271) -/
theorem test_VC20 : after { start 0x1000#16 (fl 0 0 0 0 0 0) [(0x3002, 0x78), (0x3003, 0x56), (0x1000, 0x7C), (0x1001, 0x00), (0x1002, 0x30)] with x := 0x02#8 }
    (fun t => (t.pc, t.p)) = some (0x5678#16, (fl 0 0 0 0 0 0)) := by decide
/-- VC23 (R272) -/
theorem test_VC23 : after { start 0xC0FE#16 (fl 0 0 0 0 0 0) [(0x3005, 0x02), (0xC0FE, 0x23), (0xC0FF, 0x00), (0xC100, 0x30)] with x := 0x04#8, sp := 0x01#8 }
    (fun t => (t.sp, t.pc, t.p, t.readByte 0x0101#16, t.readByte 0x0100#16)) = some (0xFF#8, 0x0200#16, (fl 0 0 0 0 0 0), 0xC1#8, 0x00#8) := by decide
/-- VC26 (R273) -/
theorem test_VC26 : after (start 0x1000#16 (fl 0 0 0 0 0 0) [(0x0100, 0x10), (0x0101, 0x20), (0x1000, 0x60)])
    (fun t => (t.sp, t.pc, t.p)) = some (0x01#8, 0x2011#16, (fl 0 0 0 0 0 0)) := by decide
/-- VC29 (R276) -/
theorem test_VC29 : after { start 0x1000#16 (fl 0 0 0 0 0 0) [(0x01FD, 0xFF), (0x01FF, 0x80), (0x1000, 0x40)] with sp := 0xFC#8 }
    (fun t => (t.sp, t.pc, t.p)) = some (0xFF#8, 0x8000#16, (fl 1 1 1 1 1 1)) := by decide
/-- VC30 (R277) -/
theorem test_VC30 : after (start 0x1000#16 (fl 0 0 1 0 0 1) [(0xFFFF, 0xE0), (0x1000, 0x00)])
    (fun t => (t.sp, t.pc, t.p, t.readByte 0x01FF#16, t.readByte 0x01FE#16, t.readByte 0x01FD#16)) = some (0xFC#8, 0xE000#16, (fl 0 0 0 1 0 1), 0x10#8, 0x02#8, 0x39#8) := by decide
/-- VC32 (R277) -/
theorem test_VC32 : after { start 0xFFFF#16 (fl 0 0 0 1 0 0) [(0xFFFF, 0x00)] with sp := 0x01#8 }
    (fun t => (t.sp, t.pc, t.p, t.readByte 0x0101#16, t.readByte 0x0100#16, t.readByte 0x01FF#16)) = some (0xFE#8, 0x0000#16, (fl 0 0 0 1 0 0), 0x00#8, 0x01#8, 0x34#8) := by decide
/-- VF1 (R290) -/
theorem test_VF1 : after (start 0x1000#16 (fl 1 1 1 1 1 1) [(0x1000, 0x18)])
    (fun t => (t.pc, t.p)) = some (0x1001#16, (fl 1 1 1 1 1 0)) := by decide
/-- VF2 (R291) -/
theorem test_VF2 : after (start 0x1000#16 (fl 0 0 0 0 0 0) [(0x1000, 0x38)])
    (fun t => (t.pc, t.p)) = some (0x1001#16, (fl 0 0 0 0 0 1)) := by decide
/-- VF3 (R292) -/
theorem test_VF3 : after (start 0x1000#16 (fl 1 1 1 1 1 1) [(0x1000, 0xD8)])
    (fun t => (t.pc, t.p)) = some (0x1001#16, (fl 1 1 0 1 1 1)) := by decide
/-- VF4 (R293) -/
theorem test_VF4 : after (start 0x1000#16 (fl 0 0 0 0 0 0) [(0x1000, 0xF8)])
    (fun t => (t.pc, t.p)) = some (0x1001#16, (fl 0 0 1 0 0 0)) := by decide
/-- VF5 (R294) -/
theorem test_VF5 : after (start 0x1000#16 (fl 1 1 1 1 1 1) [(0x1000, 0x58)])
    (fun t => (t.pc, t.p)) = some (0x1001#16, (fl 1 1 1 0 1 1)) := by decide
/-- VF6 (R296) -/
theorem test_VF6 : after (start 0x1000#16 (fl 0 0 0 0 0 0) [(0x1000, 0x78)])
    (fun t => (t.pc, t.p)) = some (0x1001#16, (fl 0 0 0 1 0 0)) := by decide
/-- VF7 (R297) -/
theorem test_VF7 : after (start 0x1000#16 (fl 1 1 1 1 1 1) [(0x1000, 0xB8)])
    (fun t => (t.pc, t.p)) = some (0x1001#16, (fl 1 0 1 1 1 1)) := by decide
theorem test_VF9 : step (start 0x1000#16 (fl 0 0 0 0 0 0) [(0x1000, 0x02)]) = .refused .cleUnknown := rfl
theorem test_VF10 : step (start 0x1000#16 (fl 0 0 0 0 0 0) [(0x1000, 0x03)]) = .refused .seeUnknown := rfl
theorem test_VF11 : step (start 0x1000#16 (fl 0 0 0 0 0 0) [(0x1000, 0x5C)]) = .refused .mapUnknown := rfl
/-- VX1 (R312 R318) -/
theorem test_VX1 : after { start 0x1234#16 (fl 1 0 0 0 0 1) [(0xFFFF, 0xE0), (0x1234, 0xEA)] with inputs := [⟨false, false, true⟩] }
    (fun t => (t.sp, t.pc, t.p, t.readByte 0x01FF#16, t.readByte 0x01FE#16, t.readByte 0x01FD#16)) = some (0xFC#8, 0xE000#16, (fl 1 0 0 1 0 1), 0x12#8, 0x34#8, 0xA1#8) := by decide
/-- VX2 (R312) -/
theorem test_VX2 : after { start 0x1234#16 (fl 0 0 0 1 0 0) [(0xFFFF, 0xE0), (0x1234, 0xEA)] with inputs := [⟨false, false, true⟩] }
    (fun t => (t.pc, t.p)) = some (0x1235#16, (fl 0 0 0 1 0 0)) := by decide
/-- VX4 (R317) -/
theorem test_VX4 : after { start 0x1234#16 (fl 0 0 0 0 0 0) [(0xFFFB, 0xD0), (0xFFFF, 0xE0), (0x1234, 0xEA)] with inputs := [⟨false, false, true⟩], nmiPending := true }
    (fun t => (t.sp, t.pc, t.p, t.readByte 0x01FF#16, t.readByte 0x01FE#16, t.readByte 0x01FD#16)) = some (0xFC#8, 0xD000#16, (fl 0 0 0 1 0 0), 0x12#8, 0x34#8, 0x20#8) := by decide

/-- R314, R350: RESET during a run reads the vector, clears Z, B and D, sets I, and writes no memory. -/
theorem test_reset_event :
    after { start 0x1000#16 (fl 1 1 1 0 1 1) [(0x1000, 0x5B), (0xFFFC, 0x34), (0xFFFD, 0x12)] with
      z := 7#8, b := 9#8, inputs := [⟨true, true, true⟩] }
    (fun t => (t.z, t.b, t.pc, t.p.i && !t.p.d, t.nmiPending, t.readByte 0x01FF#16)) =
      some (0#8, 0#8, 0x1234#16, true, false, 0#8) := by decide

/-- R313: an NMI edge at a boundary is taken there, and once. -/
theorem test_nmi_edge :
    after { start 0x1000#16 (fl 0 0 0 1 0 0) [(0x1000, 0xEA), (0xFFFA, 0x00), (0xFFFB, 0xD0)] with
      inputs := [⟨false, true, false⟩] }
    (fun t => (t.pc, t.sp, t.nmiPending, t.inputs)) = some (0xD000#16, 0xFC#8, false, []) := by decide

/-- R366: the instruction at `STOP_ADDRESS` is not executed. -/
theorem test_stop_address :
    step { start 0x1000#16 (fl 0 0 0 0 0 0) [(0x1000, 0xEA)] with
      cfg := { Config.default with stopAddress := some 0x1000#16 } } = .fault .stopAddressReached := rfl

/-- The host's two functions: the next step runs the instruction placed. -/
theorem test_fetch_word :
    after (State.reset.withFetchWord 16 0x7FA9) (fun t => (t.a, t.pc)) = some (0x7F#8, 0x0002#16) := by
  decide

/-- The same with everything that could come first at this boundary. -/
theorem test_fetch_word_quiet :
    after (({ start 0xFFFF#16 (fl 0 0 0 0 0 0) [] with
      inputs := [⟨true, true, true⟩], nmiPending := true,
      cfg := { Config.default with stopAddress := some 0xFFFF#16 } } : State).withFetchWord 24 0x12344C)
      (fun t => t.pc) = some 0x1234#16 := by decide

/-! The hypotheses of the obligations can be met. An obligation that only ranges over a literal list of
instructions written in it, or has no hypothesis, has no witness here. -/

/-- A state at NOP, with A, X, Y, B and SP not zero. -/
def sample : State :=
  { start 0x1000#16 (fl 0 0 0 0 0 0) [(0x1000, 0xEA), (0xFFFC, 0x34), (0xFFFD, 0x12)] with
    a := 0x80#8, x := 0xFF#8, y := 0x01#8, b := 0x20#8 }

theorem witness_DecodeInvertsEncode :
    (Instr.inw (.abs 0xFFFF#16)).wellFormed Config.default = true ∧
    (Instr.dew (.bp 0xFF#8)).wellFormed Config.default = true ∧
    (Instr.bbr7 0x00#8 0xFF#8).wellFormed Config.default = true := by decide

theorem witness_EncodeInvertsDecode :
    decode Config.default [0xC3#8, 0xFF#8, 0x00#8] = .ok (.dew (.bp 0xFF#8), [0x00#8]) := by decide

theorem witness_CanonicalMemoryIsUnique :
    Memory.wf [(0, 1#8), (65535, 2#8)] ∧
    ∀ a : Word, Memory.readByte [(0, 1#8), (65535, 2#8)] a = Memory.readByte [(0, 1#8), (65535, 2#8)] a :=
  ⟨by decide, fun _ => rfl⟩

theorem witness_StepKeepsMemoryCanonical :
    sample.mem.wf ∧ after sample (fun t => decide t.mem.wf) = some true := by decide

theorem witness_ResetEventRunsTheResetSequence :
    sample.cfg.stopAddress ≠ some sample.pc ∧
    ({ sample with inputs := [⟨true, true, true⟩] } : State).inputsNow.reset = true := by decide

theorem witness_NmiEntry :
    sample.cfg.stopAddress ≠ some sample.pc ∧ sample.inputsNow.reset = false ∧
    ({ sample with nmiPending := true } : State).nmiPending = true ∧
    ({ sample with inputs := [⟨false, true, true⟩] } : State).inputsNow.nmiEdge = true ∧
    ({ sample with inputs := [⟨false, true, true⟩] } : State).inputsNow.reset = false := by decide

theorem witness_IrqEntry :
    ∃ s : State, s.cfg.stopAddress ≠ some s.pc ∧ s.inputsNow.reset = false ∧ s.nmiPending = false ∧
      s.inputsNow.nmiEdge = false ∧ s.inputsNow.irqLine = true ∧ s.p.i = false :=
  ⟨{ sample with inputs := [⟨false, false, true⟩] }, by decide⟩

theorem witness_MaskedIrqHasNoEffect :
    ∃ (s : State) (e : Inputs) (rest : List Inputs), s.inputs = e :: rest ∧ s.p.i = true ∧ e.irqLine = true :=
  ⟨{ sample with inputs := [⟨false, false, true⟩], p := fl 0 0 0 1 0 0 }, ⟨false, false, true⟩, [], by decide⟩

theorem witness_StepRunsTheDecodedInstruction :
    sample.cfg.stopAddress ≠ some sample.pc ∧ sample.inputsNow.reset = false ∧ sample.nmiPending = false ∧
    sample.inputsNow.nmiEdge = false ∧ (sample.inputsNow.irqLine = false ∨ sample.p.i = true) ∧
    decode sample.cfg [sample.readByte sample.pc, sample.readByte (sample.pc + 1#16),
      sample.readByte (sample.pc + 2#16)] = .ok (.nop, [0x00#8, 0x00#8]) := by decide

/-- The second boundary of a run whose first instruction is CLI, or SEI. -/
theorem witness_CliAndSeiActAtTheNextBoundary :
    ∃ s s' : State, s.readByte s.pc = 0x58#8 ∧ s'.readByte s'.pc = 0x78#8 ∧
      s.inputs = [Inputs.idle, ⟨false, false, true⟩] ∧ s'.inputs = s.inputs ∧
      s.nmiPending = false ∧ s'.nmiPending = false ∧ s.cfg.stopAddress = none ∧ s'.cfg.stopAddress = none :=
  ⟨{ sample with mem := [(0x1000, 0x58#8)], inputs := [Inputs.idle, ⟨false, false, true⟩] },
    { sample with mem := [(0x1000, 0x78#8)], inputs := [Inputs.idle, ⟨false, false, true⟩] }, by decide⟩

theorem witness_RunEndsAtTheStopAddress :
    ∃ s : State, s.cfg.stopAddress = some s.pc ∧ step s = .fault .stopAddressReached :=
  ⟨{ sample with cfg := { Config.default with stopAddress := some 0x1000#16 } }, rfl, rfl⟩

theorem witness_OnlyUnknownOpcodesEndARun :
    sample.cfg.stopAddress ≠ some sample.pc ∧ Safety.unknownOpcode (sample.readByte sample.pc) = false ∧
    Safety.unknownOpcode 0x02#8 = true ∧ Safety.unknownOpcode 0x62#8 = true := by decide

/-- Both ways B can change: TAB, and a RESET event. -/
theorem witness_OnlyTabOrResetChangesB :
    after { sample with mem := [(0x1000, 0x5B#8)] } (fun t => t.b) = some 0x80#8 ∧
    (∃ t, step { sample with inputs := [⟨true, false, false⟩] } = .next t ∧ t.b ≠ sample.b) :=
  ⟨by decide, _, rfl, by decide⟩

theorem witness_RegisterAndMemoryWriters :
    (∃ t, exec .inx sample = .next t ∧ t.x ≠ sample.x) ∧
    (∃ t, exec .pha sample = .next t ∧ t.sp ≠ sample.sp ∧ t.mem ≠ sample.mem) :=
  ⟨⟨_, rfl, by decide⟩, _, rfl, by decide⟩

theorem witness_FlagWriters :
    (∃ t, exec .sec sample = .next t ∧ t.p.c ≠ sample.p.c) ∧
    (∃ t, exec .brk { sample with p := fl 0 0 1 0 0 0 } = .next t ∧ t.p.d ≠ true ∧ t.p.i ≠ false) ∧
    (∃ t, exec (.bitImm 0xC0#8) { sample with cfg := { Config.default with bitImmWritesNV := true } } = .next t ∧
      t.p.v ≠ sample.p.v) :=
  ⟨⟨_, rfl, by decide⟩, ⟨_, rfl, by decide⟩, _, rfl, by decide⟩

theorem witness_BinaryAdcSbcEffect :
    sample.p.d = false ∧
    (⟨.adcImm 0x80#8, [0x69#8, 0x80#8], .imm8 0x80#8⟩ : Form Source) ∈ adcForms 0x80#8 0xFFFF#16 ∧
    (⟨.sbcAbsx 0xFFFF#16, [0xFD#8, 0xFF#8, 0xFF#8], .mem (.absx 0xFFFF#16)⟩ : Form Source) ∈
      sbcForms 0x80#8 0xFFFF#16 := ⟨by decide, by simp [adcForms], by simp [sbcForms]; decide⟩

/-- The largest sum and the smallest difference. -/
theorem witness_DecimalAdcSbcEffect :
    ∃ s : State, s.p.d = true ∧ isBcd s.a ∧
      (⟨.adcImm 0x99#8, [0x69#8, 0x99#8], .imm8 0x99#8⟩ : Form Source) ∈ adcForms 0x99#8 0#16 ∧
      isBcd (s.load8 (.imm8 0x99#8)) ∧ dec s.a + dec 0x99#8 + one s.p.c = 199 ∧
      (⟨.sbcImm 0x99#8, [0xE9#8, 0x99#8], .imm8 0x99#8⟩ : Form Source) ∈ sbcForms 0x99#8 0#16 ∧
      isBcd (0x00#8) :=
  ⟨{ sample with a := 0x99#8, p := fl 0 0 1 0 0 1 }, by decide, by unfold isBcd; decide, by simp [adcForms],
    by unfold isBcd; decide, by decide, by simp [sbcForms], by unfold isBcd; decide⟩

/-- The first byte that is not valid BCD. -/
theorem witness_InvalidBcdStillCompletes :
    ∃ s : State, s.p.d = true ∧
      (⟨.adcImm 0x0A#8, [0x69#8, 0x0A#8], .imm8 0x0A#8⟩ : Form Source) ∈ adcForms 0x0A#8 0#16 ++ sbcForms 0x0A#8 0#16 ∧
      ¬ (isBcd s.a ∧ isBcd (s.load8 (.imm8 0x0A#8))) :=
  ⟨{ sample with p := fl 0 0 1 0 0 0 }, by decide, by simp [adcForms], by unfold isBcd; decide⟩

/-- The lists of forms are not empty: the last form of each, for every operand. -/
theorem witness_forms (nn : Byte) (nnnn : Word) :
    (⟨.ldaIndsp nn, [0xE2#8, nn], .mem (.indsp nn)⟩ : Form Source) ∈ ldaForms nn nnnn ∧
    (⟨.ldxAbsy nnnn, [0xBE#8, loByte nnnn, hiByte nnnn], .mem (.absy nnnn)⟩ : Form Source) ∈ ldxForms nn nnnn ∧
    (⟨.ldyAbsx nnnn, [0xBC#8, loByte nnnn, hiByte nnnn], .mem (.absx nnnn)⟩ : Form Source) ∈ ldyForms nn nnnn ∧
    (⟨.ldzAbsx nnnn, [0xBB#8, loByte nnnn, hiByte nnnn], .mem (.absx nnnn)⟩ : Form Source) ∈ ldzForms nn nnnn ∧
    (⟨.staIndsp nn, [0x82#8, nn], .indsp nn⟩ : Form MemOperand) ∈ staForms nn nnnn ∧
    (⟨.stxBpy nn, [0x96#8, nn], .bpy nn⟩ : Form MemOperand) ∈ stxForms nn nnnn ∧
    (⟨.styBpx nn, [0x94#8, nn], .bpx nn⟩ : Form MemOperand) ∈ styForms nn nnnn ∧
    (⟨.stzBp nn, [0x64#8, nn], .bp nn⟩ : Form MemOperand) ∈ stzForms nn nnnn ∧
    (⟨.andImm nn, [0x29#8, nn], .imm8 nn⟩ : Form Source) ∈ andForms nn nnnn ∧
    (⟨.oraImm nn, [0x09#8, nn], .imm8 nn⟩ : Form Source) ∈ oraForms nn nnnn ∧
    (⟨.eorImm nn, [0x49#8, nn], .imm8 nn⟩ : Form Source) ∈ eorForms nn nnnn ∧
    (⟨.cmpImm nn, [0xC9#8, nn], .imm8 nn⟩ : Form Source) ∈ cmpForms nn nnnn ∧
    (⟨.bitImm nn, [0x89#8, nn], .imm8 nn⟩ : Form Source) ∈ bitForms nn nnnn := by
  simp [ldaForms, ldxForms, ldyForms, ldzForms, staForms, stxForms, styForms, stzForms, andForms, oraForms,
    eorForms, cmpForms, bitForms]

/-- The same for the read-modify-write, jump and bit families. -/
theorem witness_more_forms (nn dd : Byte) (nnnn : Word) :
    (⟨.incAcc, [0x1A#8], .acc⟩ : Form Place) ∈ incForms nn nnnn ∧
    (⟨.decAcc, [0x3A#8], .acc⟩ : Form Place) ∈ decForms nn nnnn ∧
    (⟨.aslAcc, [0x0A#8], .acc⟩ : Form Place) ∈ aslForms nn nnnn ∧
    (⟨.lsrAcc, [0x4A#8], .acc⟩ : Form Place) ∈ lsrForms nn nnnn ∧
    (⟨.rolAcc, [0x2A#8], .acc⟩ : Form Place) ∈ rolForms nn nnnn ∧
    (⟨.rorAcc, [0x6A#8], .acc⟩ : Form Place) ∈ rorForms nn nnnn ∧
    (⟨.asrBpx nn, [0x54#8, nn], .mem (.bpx nn)⟩ : Form Place) ∈ asrForms nn nnnn ∧
    (⟨.trbBp nn, [0x14#8, nn], .bp nn⟩ : Form MemOperand) ∈ trbForms nn nnnn ∧
    (⟨.tsbBp nn, [0x04#8, nn], .bp nn⟩ : Form MemOperand) ∈ tsbForms nn nnnn ∧
    (Instr.rmb7 nn, 7) ∈ (rmbs nn).zipIdx ∧ (Instr.smb0 nn, 0) ∈ (smbs nn).zipIdx ∧
    (Instr.bbr7 nn dd, 7) ∈ (bbrs nn dd).zipIdx ∧ (Instr.bbs0 nn dd, 0) ∈ (bbss nn dd).zipIdx := by
  simp [incForms, decForms, aslForms, lsrForms, rolForms, rorForms, asrForms, trbForms, tsbForms, rmbs, smbs,
    bbrs, bbss]

/-- A branch taken at a boundary of its range, and one not taken (R261). -/
theorem witness_BranchEffect :
    (Instr.bccRel8 0x80#8, 0x90#8, Instr.bccRel16 0xFFFF#16, 0x93#8, true) ∈ branches sample 0x80#8 0xFFFF#16 ∧
    (Instr.bcsRel8 0x80#8, 0xB0#8, Instr.bcsRel16 0xFFFF#16, 0xB3#8, false) ∈ branches sample 0x80#8 0xFFFF#16 := by
  decide

end Sys2Proof.Tests
end

section
/-! PROOF. What an operation may change. A `Frame l s t` says that `t` comes from `s` by changing at most the
fields of `l` (and the PC), and that memory stays in its canonical form. One rule per primitive update, then one
lemma per shared operation of the model, each a chain of those rules. -/

namespace Sys2Proof.Machine

/-- The six flags of R28. -/
inductive Flag where
  | n | v | d | i | z | c

/-- The value of a flag. -/
def Status.flag (p : Status) : Flag → Bool
  | .n => p.n
  | .v => p.v
  | .d => p.d
  | .i => p.i
  | .z => p.z
  | .c => p.c

/-- The fields of the state that R32, R38 and R57 list the writers of, and the count of free values. -/
inductive Field where
  | reg (r : Reg)
  | flag (f : Flag)
  | mem
  | drawn

/-- The field has the same value in both states. -/
def Field.Same (s t : State) : Field → Prop
  | .reg r => t.reg r = s.reg r
  | .flag f => t.p.flag f = s.p.flag f
  | .mem => t.mem = s.mem
  | .drawn => t.drawn = s.drawn

/-- From `s` to `t` nothing changes but the fields of `l` and the PC, and memory stays canonical. -/
structure Frame (l : List Field) (s t : State) : Prop where
  same : ∀ f, f ∉ l → f.Same s t
  nmiPending : t.nmiPending = s.nmiPending
  inputs : t.inputs = s.inputs
  cfg : t.cfg = s.cfg
  wf : s.mem.wf → t.mem.wf

theorem Frame.refl {l : List Field} {s : State} : Frame l s s where
  same f _ := by cases f <;> rfl
  nmiPending := rfl
  inputs := rfl
  cfg := rfl
  wf := id

/-- A changed field is one of the frame's. -/
theorem Frame.mem_of_not_same {l : List Field} {s t : State} (h : Frame l s t) {f : Field}
    (hf : ¬ f.Same s t) : f ∈ l := by
  by_contra hl
  exact hf (h.same f hl)

/-- Two changes in a row, inside the same fields. -/
theorem Frame.trans {l : List Field} {s t u : State} (h : Frame l s t) (h' : Frame l t u) : Frame l s u where
  same f hf := by
    have hst := h.same f hf
    have htu := h'.same f hf
    cases f <;> exact htu.trans hst
  nmiPending := h'.nmiPending.trans h.nmiPending
  inputs := h'.inputs.trans h.inputs
  cfg := h'.cfg.trans h.cfg
  wf := h'.wf ∘ h.wf

/-! The registers as one family. -/

section
variable (s : State) (r : Reg) (v : Byte)

theorem State.reg_setReg (q : Reg) : (s.setReg r v).reg q = if q = r then v else s.reg q := by
  cases r <;> cases q <;> rfl

@[simp] theorem State.setReg_p : (s.setReg r v).p = s.p := by cases r <;> rfl
@[simp] theorem State.setReg_mem : (s.setReg r v).mem = s.mem := by cases r <;> rfl
@[simp] theorem State.setReg_drawn : (s.setReg r v).drawn = s.drawn := by cases r <;> rfl
@[simp] theorem State.setReg_nmiPending : (s.setReg r v).nmiPending = s.nmiPending := by cases r <;> rfl
@[simp] theorem State.setReg_inputs : (s.setReg r v).inputs = s.inputs := by cases r <;> rfl
@[simp] theorem State.setReg_cfg : (s.setReg r v).cfg = s.cfg := by cases r <;> rfl

end

/-! The rules of the primitive updates. -/

namespace Frame

section
variable {l : List Field} {s t : State} (h : Frame l s t)
include h

theorem setReg {r : Reg} {v : Byte} (hr : .reg r ∈ l := by simp) : Frame l s (t.setReg r v) :=
  h.trans
    { same := fun f hf => by
        cases f with
        | reg q =>
          have hq : q ≠ r := fun e => hf (e ▸ hr)
          simp [Field.Same, State.reg_setReg, hq]
        | flag | mem | drawn => simp [Field.Same]
      nmiPending := by simp
      inputs := by simp
      cfg := by simp
      wf := by simp }

/-- New flags that agree with the old ones outside the frame. -/
theorem setP {p : Status} (hp : ∀ f, .flag f ∉ l → p.flag f = t.p.flag f) : Frame l s (t.setP p) :=
  h.trans
    { same := fun f hf => by
        cases f with
        | flag f => exact hp f hf
        | reg | mem | drawn => rfl
      nmiPending := rfl
      inputs := rfl
      cfg := rfl
      wf := id }

theorem setPc {v : Word} : Frame l s (t.setPc v) :=
  h.trans
    { same := fun f _ => by cases f <;> rfl
      nmiPending := rfl
      inputs := rfl
      cfg := rfl
      wf := id }

theorem writeByte {a : Word} {v : Byte} (hm : .mem ∈ l := by simp) : Frame l s (t.writeByte a v) :=
  h.trans
    { same := fun f hf => by
        cases f with
        | mem => exact absurd hm hf
        | reg | flag | drawn => rfl
      nmiPending := rfl
      inputs := rfl
      cfg := rfl
      wf := fun hwf => Memory.wf_writeByte hwf a v }

theorem draw (hd : .drawn ∈ l := by simp) : Frame l s t.draw :=
  h.trans
    { same := fun f hf => by
        cases f with
        | drawn => exact absurd hd hf
        | reg | flag | mem => rfl
      nmiPending := rfl
      inputs := rfl
      cfg := rfl
      wf := id }

/-! The updates that are made of these five. -/

theorem setA {v : Byte} (hr : .reg .a ∈ l := by simp) : Frame l s (t.setA v) := h.setReg (r := .a) hr

theorem setSp {v : Byte} (hr : .reg .sp ∈ l := by simp) : Frame l s (t.setSp v) := h.setReg (r := .sp) hr

theorem advance {len : Nat} : Frame l s (t.advance len) := h.setPc

theorem setNZ {v : Byte} (hn : .flag .n ∈ l := by simp) (hz : .flag .z ∈ l := by simp) :
    Frame l s (t.setNZ v) :=
  h.setP fun
    | .n, hf => absurd hn hf
    | .z, hf => absurd hz hf
    | .v, _ | .d, _ | .i, _ | .c, _ => rfl

theorem setNZ16 {v : Word} (hn : .flag .n ∈ l := by simp) (hz : .flag .z ∈ l := by simp) :
    Frame l s (t.setNZ16 v) :=
  h.setP fun
    | .n, hf => absurd hn hf
    | .z, hf => absurd hz hf
    | .v, _ | .d, _ | .i, _ | .c, _ => rfl

theorem compare {r m : Byte} (hn : .flag .n ∈ l := by simp) (hz : .flag .z ∈ l := by simp)
    (hc : .flag .c ∈ l := by simp) : Frame l s (t.compare r m) :=
  h.setP fun
    | .n, hf => absurd hn hf
    | .z, hf => absurd hz hf
    | .c, hf => absurd hc hf
    | .v, _ | .d, _ | .i, _ => rfl

theorem setNVZ {n v z : Bool} (hn : .flag .n ∈ l := by simp) (hv : .flag .v ∈ l := by simp)
    (hz : .flag .z ∈ l := by simp) : Frame l s (t.setP { t.p with n := n, v := v, z := z }) :=
  h.setP fun
    | .n, hf => absurd hn hf
    | .v, hf => absurd hv hf
    | .z, hf => absurd hz hf
    | .d, _ | .i, _ | .c, _ => rfl

theorem setFlagN {b : Bool} (hn : .flag .n ∈ l := by simp) : Frame l s (t.setP { t.p with n := b }) :=
  h.setP fun
    | .n, hf => absurd hn hf
    | .v, _ | .d, _ | .i, _ | .z, _ | .c, _ => rfl

theorem setFlagZ {b : Bool} (hz : .flag .z ∈ l := by simp) : Frame l s (t.setP { t.p with z := b }) :=
  h.setP fun
    | .z, hf => absurd hz hf
    | .n, _ | .v, _ | .d, _ | .i, _ | .c, _ => rfl

theorem setC {b : Bool} (hc : .flag .c ∈ l := by simp) : Frame l s (t.setC b) :=
  h.setP fun
    | .c, hf => absurd hc hf
    | .n, _ | .v, _ | .d, _ | .i, _ | .z, _ => rfl

theorem setV {b : Bool} (hv : .flag .v ∈ l := by simp) : Frame l s (t.setV b) :=
  h.setP fun
    | .v, hf => absurd hv hf
    | .n, _ | .d, _ | .i, _ | .z, _ | .c, _ => rfl

theorem setD {b : Bool} (hd : .flag .d ∈ l := by simp) : Frame l s (t.setD b) :=
  h.setP fun
    | .d, hf => absurd hd hf
    | .n, _ | .v, _ | .i, _ | .z, _ | .c, _ => rfl

theorem setI {b : Bool} (hi : .flag .i ∈ l := by simp) : Frame l s (t.setI b) :=
  h.setP fun
    | .i, hf => absurd hi hf
    | .n, _ | .v, _ | .d, _ | .z, _ | .c, _ => rfl

theorem anyA (ha : .reg .a ∈ l := by simp) (hd : .drawn ∈ l := by simp) : Frame l s t.anyA :=
  (h.setA ha).draw hd

theorem anyN (hn : .flag .n ∈ l := by simp) (hd : .drawn ∈ l := by simp) : Frame l s t.anyN :=
  (h.setFlagN hn).draw hd

theorem anyV (hv : .flag .v ∈ l := by simp) (hd : .drawn ∈ l := by simp) : Frame l s t.anyV :=
  (h.setV hv).draw hd

theorem anyZ (hz : .flag .z ∈ l := by simp) (hd : .drawn ∈ l := by simp) : Frame l s t.anyZ :=
  (h.setFlagZ hz).draw hd

theorem anyC (hc : .flag .c ∈ l := by simp) (hd : .drawn ∈ l := by simp) : Frame l s t.anyC :=
  (h.setC hc).draw hd

theorem push {v : Byte} (hm : .mem ∈ l := by simp) (hsp : .reg .sp ∈ l := by simp) : Frame l s (t.push v) :=
  (h.writeByte hm).setSp hsp

theorem pushWord {w : Word} (hm : .mem ∈ l := by simp) (hsp : .reg .sp ∈ l := by simp) :
    Frame l s (t.pushWord w) :=
  (h.push hm hsp).push hm hsp

theorem afterPull (hsp : .reg .sp ∈ l := by simp) : Frame l s t.afterPull := h.setSp hsp

theorem afterPullWord (hsp : .reg .sp ∈ l := by simp) : Frame l s t.afterPullWord :=
  (h.afterPull hsp).afterPull hsp

end
end Frame

/-! What an operation may change, by its operand or parameter. -/

/-- The field that a read-modify-write stores to (R130). -/
def Place.field : Place → Field
  | .acc => .reg .a
  | .mem _ => .mem

/-- N and Z. -/
abbrev flagsNZ : List Field := [.flag .n, .flag .z]

/-- N, Z and C. -/
abbrev flagsNZC : List Field := [.flag .n, .flag .z, .flag .c]

/-- What a pulled status byte writes (R179, R276). -/
abbrev flagsAll : List Field := [.flag .n, .flag .v, .flag .d, .flag .i, .flag .z, .flag .c]

/-- What ADC and SBC write, in either mode (R190 to R194). -/
abbrev sumFields : List Field := [.reg .a, .flag .n, .flag .v, .flag .z, .flag .c, .drawn]

/-- Z, and N and V if they are written too: the flags of BIT, TRB and TSB (R202, R240, R241). -/
abbrev bitTestFlags (nv : Bool) : List Field :=
  .flag .z :: if nv then [.flag .n, .flag .v] else []

/-- What an entry writes: D only under `TRAP_CLEARS_D` (R318). -/
abbrev entryFields (clearsD : Bool) : List Field :=
  .mem :: .reg .sp :: .flag .i :: if clearsD then [.flag .d] else []

/-- Whether TRB and TSB write N and V too, which they do under `source` (R240, R241). -/
def trbTsbWriteNV (cfg : Config) : Bool := decide (cfg.trbTsbFlags = .source)

namespace Frame

section
variable {l : List Field} {s t : State} (h : Frame l s t)
include h

theorem store8 {o : Place} {v : Byte} (ho : o.field ∈ l := by simp) : Frame l s (t.store8 o v) := by
  cases o with
  | acc => exact h.setA ho
  | mem m => exact h.writeByte ho

theorem store16 {op : WordOperand} {w : Word} (hm : .mem ∈ l := by simp) : Frame l s (t.store16 op w) := by
  cases op with
  | abs nnnn => exact (h.writeByte hm).writeByte hm
  | bp nn => exact (h.writeByte hm).writeByte hm

/-- The flags of TRB and TSB (R240, R241). -/
theorem setBitFlags {m r : Byte} (hl : bitTestFlags (trbTsbWriteNV t.cfg) ⊆ l) :
    Frame l s (t.setBitFlags m r) := by
  unfold State.setBitFlags
  split
  case h_1 e =>
    obtain ⟨hz, hn, hv⟩ : .flag .z ∈ l ∧ .flag .n ∈ l ∧ .flag .v ∈ l := by
      simpa [trbTsbWriteNV, e] using hl
    exact h.setNVZ hn hv hz
  case h_2 => exact h.setFlagZ (hl (by simp))

/-- A pulled status byte gives all six flags. -/
theorem unpack {v : Byte} (hp : flagsAll ⊆ l := by simp) : Frame l s (t.setP (Status.unpack v)) :=
  h.setP fun f hf => absurd (hp (by cases f <;> simp)) hf

end

variable (s : State)

/-! Loads, stores, transfers and the stack (41_load_store.md, 42_transfer_stack.md). -/

theorem loadReg (r : Reg) (o : Source) : Frame (.reg r :: flagsNZ) s (s.loadReg r o) :=
  refl.setReg.setNZ.advance

theorem storeReg (r : Reg) (m : MemOperand) : Frame [.mem] s (s.storeReg r m) :=
  refl.writeByte.advance

theorem transfer (src dst : Reg) : Frame [.reg dst] s (s.transfer src dst) :=
  refl.setReg.advance

theorem transferNZ (src dst : Reg) : Frame (.reg dst :: flagsNZ) s (s.transferNZ src dst) :=
  refl.setReg.setNZ.advance

theorem pushReg (r : Reg) : Frame [.mem, .reg .sp] s (s.pushReg r) :=
  refl.push.advance

theorem pushStatus : Frame [.mem, .reg .sp] s s.pushStatus :=
  refl.push.advance

theorem pushWordOperand (w : Word) : Frame [.mem, .reg .sp] s (s.pushWordOperand w) :=
  refl.pushWord.advance

theorem pullReg (r : Reg) : Frame (.reg .sp :: .reg r :: flagsNZ) s (s.pullReg r) :=
  refl.afterPull.setReg.setNZ.advance

theorem pullStatus : Frame (.reg .sp :: flagsAll) s s.pullStatus :=
  refl.afterPull.unpack.advance

/-! Arithmetic and logic (43_arith_logic.md). -/

theorem addBinary (m : Byte) : Frame sumFields s (s.addBinary m) :=
  refl.setA.setNZ.setC.setV

theorem anyDecimal : Frame sumFields s s.anyDecimal :=
  refl.anyA.anyN.anyV.anyZ.anyC

theorem addDecimal (m : Byte) : Frame sumFields s (s.addDecimal m) := by
  unfold State.addDecimal
  split
  · exact refl.setA.setNZ.setC.anyV
  · exact anyDecimal s

theorem subDecimal (m : Byte) : Frame sumFields s (s.subDecimal m) := by
  unfold State.subDecimal
  split
  · exact refl.setA.setNZ.setC.anyV
  · exact anyDecimal s

theorem adc (o : Source) : Frame sumFields s (s.adc o) := by
  unfold State.adc
  split
  · exact (addDecimal s _).advance
  · exact (addBinary s _).advance

theorem sbc (o : Source) : Frame sumFields s (s.sbc o) := by
  unfold State.sbc
  split
  · exact (subDecimal s _).advance
  · exact (addBinary s _).advance

theorem andA (o : Source) : Frame (.reg .a :: flagsNZ) s (s.andA o) :=
  refl.setA.setNZ.advance

theorem oraA (o : Source) : Frame (.reg .a :: flagsNZ) s (s.oraA o) :=
  refl.setA.setNZ.advance

theorem eorA (o : Source) : Frame (.reg .a :: flagsNZ) s (s.eorA o) :=
  refl.setA.setNZ.advance

theorem negate : Frame (.reg .a :: flagsNZ) s s.negate :=
  refl.setA.setNZ.advance

theorem compareReg (r : Reg) (o : Source) : Frame flagsNZC s (s.compareReg r o) :=
  refl.compare.advance

theorem bitTest (o : Source) : Frame (bitTestFlags (s.bitWritesNV o)) s (s.bitTest o) := by
  unfold State.bitTest
  cases s.bitWritesNV o with
  | true => exact refl.setNVZ.advance
  | false => exact refl.setFlagZ.advance

theorem increment (o : Place) : Frame (o.field :: flagsNZ) s (s.increment o) :=
  refl.store8.setNZ.advance

theorem decrement (o : Place) : Frame (o.field :: flagsNZ) s (s.decrement o) :=
  refl.store8.setNZ.advance

theorem incrementReg (r : Reg) : Frame (.reg r :: flagsNZ) s (s.incrementReg r) :=
  refl.setReg.setNZ.advance

theorem decrementReg (r : Reg) : Frame (.reg r :: flagsNZ) s (s.decrementReg r) :=
  refl.setReg.setNZ.advance

theorem incrementWord (op : WordOperand) : Frame (.mem :: flagsNZ) s (s.incrementWord op) :=
  refl.store16.setNZ16.advance

theorem decrementWord (op : WordOperand) : Frame (.mem :: flagsNZ) s (s.decrementWord op) :=
  refl.store16.setNZ16.advance

/-! Shifts and bit operations (44_shift_rotate.md, 45_bit_ops.md). -/

theorem shift8 (o : Place) (r : Byte) (out : Bool) : Frame (o.field :: flagsNZC) s (s.shift8 o r out) :=
  refl.store8.setNZ.setC.advance

theorem shift16 (nnnn r : Word) (out : Bool) : Frame (.mem :: flagsNZC) s (s.shift16 nnnn r out) :=
  refl.store16.setNZ16.setC.advance

theorem testResetBits (m : MemOperand) :
    Frame (.mem :: bitTestFlags (trbTsbWriteNV s.cfg)) s (s.testResetBits m) :=
  (refl.writeByte.setBitFlags (by simp)).advance

theorem testSetBits (m : MemOperand) :
    Frame (.mem :: bitTestFlags (trbTsbWriteNV s.cfg)) s (s.testSetBits m) :=
  (refl.writeByte.setBitFlags (by simp)).advance

theorem resetBit (i : Nat) (nn : Byte) : Frame [.mem] s (s.resetBit i nn) :=
  refl.writeByte.advance

theorem setBit (i : Nat) (nn : Byte) : Frame [.mem] s (s.setBit i nn) :=
  refl.writeByte.advance

theorem branchBit (i : Nat) (sense : Bool) (nn dd : Byte) : Frame [] s (s.branchBit i sense nn dd) := by
  unfold State.branchBit
  split
  · exact refl.setPc
  · exact refl.advance

/-! Control transfer (46_control_flow.md). -/

theorem branch8 (cond : Bool) (dd : Byte) : Frame [] s (s.branch8 cond dd) := by
  cases cond with
  | true => exact refl.setPc
  | false => exact refl.advance

theorem branch16 (cond : Bool) (dddd : Word) : Frame [] s (s.branch16 cond dddd) := by
  cases cond with
  | true => exact refl.setPc
  | false => exact refl.advance

theorem callSubroutine (target : Word) : Frame [.mem, .reg .sp] s (s.callSubroutine target) :=
  refl.pushWord.setPc

theorem returnFromSubroutine : Frame [.reg .sp] s s.returnFromSubroutine :=
  refl.afterPullWord.setPc

theorem returnFromException : Frame (.reg .sp :: flagsAll) s s.returnFromException :=
  refl.afterPull.unpack.afterPullWord.setPc

theorem takeException (ret : Word) (b : Bool) (vector : Word) :
    Frame (entryFields s.cfg.trapClearsD) s (s.takeException ret b vector) :=
  (refl.pushWord.push.setP fun
    | .i, hf => absurd (by simp) hf
    | .d, hf => by
      have hd : s.cfg.trapClearsD = false := by simpa using hf
      simp [Status.flag, hd]
    | .n, _ | .v, _ | .z, _ | .c, _ => rfl).setPc

end Frame
end Sys2Proof.Machine
end

section
/-! PROOF. What every instruction may change, as a table, and that `exec` stays inside it. -/

namespace Sys2Proof.Machine

/-- The fields an instruction may change, the PC apart (R32, R38, R57), by the three parameters of R7 that
matter: whether BIT writes N and V from an immediate (R202), whether TRB and TSB write N and V (R240, R241),
and whether BRK clears D (R277). -/
def writes (bitImmNV trbTsbNV clearsD : Bool) : Instr → List Field
  | .ldaIndx _ | .ldaBp _ | .ldaImm _ | .ldaAbs _ | .ldaIndy _ | .ldaIndz _ | .ldaBpx _ | .ldaAbsy _
  | .ldaAbsx _ | .ldaIndsp _ | .tba | .txa | .tya | .tza | .andIndx _ | .andBp _ | .andImm _
  | .andAbs _ | .andIndy _ | .andIndz _ | .andBpx _ | .andAbsy _ | .andAbsx _ | .oraIndx _ | .oraBp _
  | .oraImm _ | .oraAbs _ | .oraIndy _ | .oraIndz _ | .oraBpx _ | .oraAbsy _ | .oraAbsx _ | .eorIndx _
  | .eorBp _ | .eorImm _ | .eorAbs _ | .eorIndy _ | .eorIndz _ | .eorBpx _ | .eorAbsy _ | .eorAbsx _
  | .neg | .incAcc | .decAcc => .reg .a :: flagsNZ
  | .ldxImm _ | .ldxBp _ | .ldxAbs _ | .ldxBpy _ | .ldxAbsy _ | .tax | .tsx | .inx | .dex =>
    .reg .x :: flagsNZ
  | .ldyImm _ | .ldyBp _ | .ldyAbs _ | .ldyBpx _ | .ldyAbsx _ | .tay | .tsy | .iny | .dey =>
    .reg .y :: flagsNZ
  | .ldzImm _ | .ldzAbs _ | .ldzAbsx _ | .taz | .inz | .dez => .reg .z :: flagsNZ
  | .staIndx _ | .staIndsp _ | .staBp _ | .staAbs _ | .staIndy _ | .staIndz _ | .staBpx _ | .staAbsy _
  | .staAbsx _ | .stxBp _ | .stxAbs _ | .stxBpy _ | .stxAbsy _ | .styBp _ | .styAbsx _ | .styAbs _
  | .styBpx _ | .stzBp _ | .stzBpx _ | .stzAbs _ | .stzAbsx _ | .rmb0 _ | .rmb1 _ | .rmb2 _ | .rmb3 _
  | .rmb4 _ | .rmb5 _ | .rmb6 _ | .rmb7 _ | .smb0 _ | .smb1 _ | .smb2 _ | .smb3 _ | .smb4 _ | .smb5 _
  | .smb6 _ | .smb7 _ => [.mem]
  | .tab => [.reg .b]
  | .txs | .tys | .rts => [.reg .sp]
  | .pha | .php | .phx | .phy | .phz | .phwImm16 _ | .phwAbs _ | .bsr _ | .jsrAbs _ | .jsrAbsInd _
  | .jsrAbsxInd _ => [.mem, .reg .sp]
  | .pla => .reg .sp :: .reg .a :: flagsNZ
  | .plp | .rti => .reg .sp :: flagsAll
  | .plx => .reg .sp :: .reg .x :: flagsNZ
  | .ply => .reg .sp :: .reg .y :: flagsNZ
  | .plz => .reg .sp :: .reg .z :: flagsNZ
  | .adcIndx _ | .adcBp _ | .adcImm _ | .adcAbs _ | .adcIndy _ | .adcIndz _ | .adcBpx _ | .adcAbsy _
  | .adcAbsx _ | .sbcIndx _ | .sbcBp _ | .sbcImm _ | .sbcAbs _ | .sbcIndy _ | .sbcIndz _ | .sbcBpx _
  | .sbcAbsy _ | .sbcAbsx _ => sumFields
  | .cmpIndx _ | .cmpBp _ | .cmpImm _ | .cmpAbs _ | .cmpIndy _ | .cmpIndz _ | .cmpBpx _ | .cmpAbsy _
  | .cmpAbsx _ | .cpxImm _ | .cpxBp _ | .cpxAbs _ | .cpyImm _ | .cpyBp _ | .cpyAbs _ | .cpzImm _
  | .cpzBp _ | .cpzAbs _ => flagsNZC
  | .bitBp _ | .bitAbs _ | .bitBpx _ | .bitAbsx _ => bitTestFlags true
  | .bitImm _ => bitTestFlags bitImmNV
  | .incBp _ | .incAbs _ | .incBpx _ | .incAbsx _ | .decBp _ | .decAbs _ | .decBpx _ | .decAbsx _
  | .inw _ | .dew _ => .mem :: flagsNZ
  | .aslBp _ | .aslAbs _ | .aslBpx _ | .aslAbsx _ | .lsrBp _ | .lsrAbs _ | .lsrBpx _ | .lsrAbsx _
  | .rolBp _ | .rolAbs _ | .rolBpx _ | .rolAbsx _ | .rorBp _ | .rorAbs _ | .rorBpx _ | .rorAbsx _
  | .asrBp _ | .asrBpx _ | .asw _ | .row _ => .mem :: flagsNZC
  | .aslAcc | .lsrAcc | .rolAcc | .rorAcc | .asrAcc => .reg .a :: flagsNZC
  | .trbBp _ | .trbAbs _ | .tsbBp _ | .tsbAbs _ => .mem :: bitTestFlags trbTsbNV
  | .bbr0 _ _ | .bbr1 _ _ | .bbr2 _ _ | .bbr3 _ _ | .bbr4 _ _ | .bbr5 _ _ | .bbr6 _ _ | .bbr7 _ _
  | .bbs0 _ _ | .bbs1 _ _ | .bbs2 _ _ | .bbs3 _ _ | .bbs4 _ _ | .bbs5 _ _ | .bbs6 _ _ | .bbs7 _ _
  | .bccRel8 _ | .bccRel16 _ | .bcsRel8 _ | .bcsRel16 _ | .beqRel8 _ | .beqRel16 _ | .bmiRel8 _
  | .bmiRel16 _ | .bneRel8 _ | .bneRel16 _ | .bplRel8 _ | .bplRel16 _ | .bvcRel8 _ | .bvcRel16 _
  | .bvsRel8 _ | .bvsRel16 _ | .braRel8 _ | .braRel16 _ | .jmpAbs _ | .jmpAbsInd _ | .jmpAbsxInd _
  | .rtsImm _ | .nop | .cle | .see | .map => []
  | .brk => entryFields clearsD
  | .clc | .sec => [.flag .c]
  | .cld | .sed => [.flag .d]
  | .cli | .sei => [.flag .i]
  | .clv => [.flag .v]

/-- The fields an instruction may change under a configuration. -/
abbrev writesUnder (cfg : Config) : Instr → List Field :=
  writes cfg.bitImmWritesNV (trbTsbWriteNV cfg) cfg.trapClearsD

/-- An answer that is no fault, and whose next state, if there is one, stays inside the fields. -/
def Framed (l : List Field) (s : State) : Result → Prop
  | .next t => Frame l s t
  | .fault _ => False
  | .refused _ => True

/-- Every instruction changes only the fields of its row of the table. -/
theorem exec_framed (i : Instr) (s : State) : Framed (writesUnder s.cfg i) s (exec i s) := by
  cases i with
  | ldaIndx | ldaBp | ldaImm | ldaAbs | ldaIndy | ldaIndz | ldaBpx | ldaAbsy
  | ldaAbsx | ldaIndsp | ldxImm | ldxBp | ldxAbs | ldxBpy | ldxAbsy | ldyImm | ldyBp
  | ldyAbs | ldyBpx | ldyAbsx | ldzImm | ldzAbs | ldzAbsx => exact Frame.loadReg s _ _
  | staIndx | staIndsp | staBp | staAbs | staIndy | staIndz | staBpx | staAbsy
  | staAbsx | stxBp | stxAbs | stxBpy | stxAbsy | styBp | styAbsx | styAbs | styBpx
  | stzBp | stzBpx | stzAbs | stzAbsx => exact Frame.storeReg s _ _
  | tax | tay | taz | tba | txa | tya | tza | tsx | tsy => exact Frame.transferNZ s _ _
  | tab | txs | tys => exact Frame.transfer s _ _
  | pha | phx | phy | phz => exact Frame.pushReg s _
  | php => exact Frame.pushStatus s
  | phwImm16 | phwAbs => exact Frame.pushWordOperand s _
  | pla | plx | ply | plz => exact Frame.pullReg s _
  | plp => exact Frame.pullStatus s
  | adcIndx | adcBp | adcImm | adcAbs | adcIndy | adcIndz | adcBpx | adcAbsy
  | adcAbsx => exact Frame.adc s _
  | sbcIndx | sbcBp | sbcImm | sbcAbs | sbcIndy | sbcIndz | sbcBpx | sbcAbsy
  | sbcAbsx => exact Frame.sbc s _
  | andIndx | andBp | andImm | andAbs | andIndy | andIndz | andBpx | andAbsy
  | andAbsx => exact Frame.andA s _
  | oraIndx | oraBp | oraImm | oraAbs | oraIndy | oraIndz | oraBpx | oraAbsy
  | oraAbsx => exact Frame.oraA s _
  | eorIndx | eorBp | eorImm | eorAbs | eorIndy | eorIndz | eorBpx | eorAbsy
  | eorAbsx => exact Frame.eorA s _
  | cmpIndx | cmpBp | cmpImm | cmpAbs | cmpIndy | cmpIndz | cmpBpx | cmpAbsy
  | cmpAbsx | cpxImm | cpxBp | cpxAbs | cpyImm | cpyBp | cpyAbs | cpzImm | cpzBp
  | cpzAbs => exact Frame.compareReg s _ _
  | bitBp | bitAbs | bitBpx | bitAbsx => exact Frame.bitTest s (.mem _)
  | bitImm => exact Frame.bitTest s (.imm8 _)
  | neg => exact Frame.negate s
  | incAcc => exact Frame.increment s .acc
  | incBp | incAbs | incBpx | incAbsx => exact Frame.increment s (.mem _)
  | decAcc => exact Frame.decrement s .acc
  | decBp | decAbs | decBpx | decAbsx => exact Frame.decrement s (.mem _)
  | inx | iny | inz => exact Frame.incrementReg s _
  | dex | dey | dez => exact Frame.decrementReg s _
  | inw => exact Frame.incrementWord s _
  | dew => exact Frame.decrementWord s _
  | aslBp | aslAbs | aslBpx | aslAbsx | lsrBp | lsrAbs | lsrBpx | lsrAbsx | rolBp
  | rolAbs | rolBpx | rolAbsx | rorBp | rorAbs | rorBpx | rorAbsx | asrBp | asrBpx =>
    exact Frame.shift8 s (.mem _) _ _
  | aslAcc | lsrAcc | rolAcc | rorAcc | asrAcc => exact Frame.shift8 s .acc _ _
  | asw | row => exact Frame.shift16 s _ _ _
  | trbBp | trbAbs => exact Frame.testResetBits s _
  | tsbBp | tsbAbs => exact Frame.testSetBits s _
  | rmb0 | rmb1 | rmb2 | rmb3 | rmb4 | rmb5 | rmb6 | rmb7 => exact Frame.resetBit s _ _
  | smb0 | smb1 | smb2 | smb3 | smb4 | smb5 | smb6 | smb7 => exact Frame.setBit s _ _
  | bbr0 | bbr1 | bbr2 | bbr3 | bbr4 | bbr5 | bbr6 | bbr7 | bbs0
  | bbs1 | bbs2 | bbs3 | bbs4 | bbs5 | bbs6 | bbs7 =>
    exact Frame.branchBit s _ _ _ _
  | bccRel8 | bcsRel8 | beqRel8 | bmiRel8 | bneRel8 | bplRel8 | bvcRel8 | bvsRel8
  | braRel8 => exact Frame.branch8 s _ _
  | bccRel16 | bcsRel16 | beqRel16 | bmiRel16 | bneRel16 | bplRel16 | bvcRel16
  | bvsRel16 | braRel16 => exact Frame.branch16 s _ _
  | bsr | jsrAbs | jsrAbsInd | jsrAbsxInd => exact Frame.callSubroutine s _
  | jmpAbs | jmpAbsInd | jmpAbsxInd => exact Frame.refl.setPc
  | rts => exact Frame.returnFromSubroutine s
  | rtsImm | cle | see | map => trivial
  | rti => exact Frame.returnFromException s
  | brk => exact Frame.takeException s _ _ _
  | clc | sec => exact (Frame.refl (l := [.flag .c])).setC.advance
  | cld | sed => exact (Frame.refl (l := [.flag .d])).setD.advance
  | cli | sei => exact (Frame.refl (l := [.flag .i])).setI.advance
  | clv => exact (Frame.refl (l := [.flag .v])).setV.advance
  | nop => exact Frame.refl.advance

/-- The same of a next state. -/
theorem exec_frame {i : Instr} {s t : State} (h : exec i s = .next t) : Frame (writesUnder s.cfg i) s t := by
  have hf := exec_framed i s
  rwa [h] at hf

end Sys2Proof.Machine
end

section
/-! PROOF. The table of writes against the opcode lists of R32, R38 and R57. -/

namespace Sys2Proof.Machine

open Sys2Proof.Claims

/-- The lists of R32, R38 and R57 name the opcode for the field, under the three parameters. -/
def listed (bitImmNV trbTsbNV clearsD : Bool) (op : Byte) : Field → Bool
  | .reg .a => decide (op ∈ aWriters)
  | .reg .x => decide (op ∈ xWriters)
  | .reg .y => decide (op ∈ yWriters)
  | .reg .z => decide (op ∈ zWriters)
  | .reg .b => decide (op ∈ bWriters)
  | .reg .sp => decide (op ∈ spWriters)
  | .mem => decide (op ∈ memWriters)
  | .drawn => decide (∃ f ∈ adcForms 0#8 0#16 ++ sbcForms 0#8 0#16, op = opcodeOf f.instr)
  | .flag .n => decide (op ∈ nFlagWriters ∨ (op = 0x89#8 ∧ bitImmNV = true) ∨
      (op ∈ bitFlagOpcodes ∧ trbTsbNV = true))
  | .flag .v => decide (op ∈ vFlagWriters ∨ (op = 0x89#8 ∧ bitImmNV = true) ∨
      (op ∈ bitFlagOpcodes ∧ trbTsbNV = true))
  | .flag .d => decide (op ∈ dFlagWriters ∧ (op = 0x00#8 → clearsD = true))
  | .flag .i => decide (op ∈ iFlagWriters)
  | .flag .z => decide (op ∈ zFlagWriters)
  | .flag .c => decide (op ∈ cFlagWriters)

section
variable (bitImmNV trbTsbNV clearsD : Bool)

/-- The opcode alone determines what an instruction writes: its operands do not matter. -/
theorem writes_decodeOpcode (i : Instr) :
    writes bitImmNV trbTsbNV clearsD (decodeOpcode Config.default (opcodeOf i) 0#8 0#8) =
      writes bitImmNV trbTsbNV clearsD i := by
  cases i <;> simp only [opcodeOf, encode, List.headD_cons] <;> rfl

/-- Every opcode is in the list of every field that its instruction writes. -/
theorem writes_listed_of_opcode : ∀ (op : Byte) (bitImmNV trbTsbNV clearsD : Bool),
    (writes bitImmNV trbTsbNV clearsD (decodeOpcode Config.default op 0#8 0#8)).all
      (listed bitImmNV trbTsbNV clearsD op) = true := by
  decide +kernel

theorem listed_of_mem_writes {i : Instr} {f : Field} (hf : f ∈ writes bitImmNV trbTsbNV clearsD i) :
    listed bitImmNV trbTsbNV clearsD (opcodeOf i) f = true := by
  rw [← writes_decodeOpcode] at hf
  exact List.all_eq_true.1 (writes_listed_of_opcode _ _ _ _) f hf

end

/-- If an instruction changes a field, the lists name its opcode for that field. -/
theorem exec_listed {i : Instr} {s t : State} (h : exec i s = .next t) {f : Field} (hf : ¬ f.Same s t) :
    listed s.cfg.bitImmWritesNV (trbTsbWriteNV s.cfg) s.cfg.trapClearsD (opcodeOf i) f = true :=
  listed_of_mem_writes _ _ _ ((exec_frame h).mem_of_not_same hf)

end Sys2Proof.Machine
end

section
/-! PROOF. The fetch and the boundary: what a step can do. -/

namespace Sys2Proof.Machine

open Sys2Proof.Claims

/-- The opcode of a decoded instruction is the byte it was decoded from (R80, R89). -/
theorem opcodeOf_decodeOpcode (cfg : Config) (op b1 b2 : Byte) : opcodeOf (decodeOpcode cfg op b1 b2) = op := by
  have key : ∀ n < 256, opcodeOf (decodeOpcode cfg (BitVec.ofNat 8 n) b1 b2) = BitVec.ofNat 8 n := by
    intro n hn
    interval_cases n <;> rfl
  simpa using key op.toNat op.isLt

theorem opcodeOf_fetchInstr (s : State) : opcodeOf s.fetchInstr = s.readByte s.pc :=
  opcodeOf_decodeOpcode _ _ _ _

/-- The decoder on the three bytes at PC gives the instruction that the step fetches (R56). -/
theorem eq_fetchInstr_of_decode {s : State} {i : Instr} {rest : List Byte}
    (h : decode s.cfg [s.readByte s.pc, s.readByte (s.pc + 1#16), s.readByte (s.pc + 2#16)] = .ok (i, rest)) :
    i = s.fetchInstr := by
  rw [decode] at h
  split at h
  · cases h
  · cases h; rfl

/-! Sampling the lines: what it leaves for the fetch, and the latch it sets. -/

section
variable (s : State)
@[simp] theorem State.fetchInstr_sample : s.sample.fetchInstr = s.fetchInstr := rfl
@[simp] theorem State.sample_nmiPending : s.sample.nmiPending = (s.nmiPending || s.inputsNow.nmiEdge) := rfl
end

/-- With no NMI pending and no edge, sampling only uses up the entry. -/
theorem State.sample_eq_of_no_nmi {s : State} (hp : s.nmiPending = false) (he : s.inputsNow.nmiEdge = false) :
    s.sample = { s with inputs := s.inputs.tail } := by
  simp [State.sample, State.setInputs, State.setNmiPending, hp, he]

/-- What a step to a next state can be: the reset sequence, an entry, or one instruction (R316, R317). -/
theorem step_cases {s t : State} (h : step s = .next t) :
    (s.inputsNow.reset = true ∧ t = s.sample.takeReset) ∨ t = s.sample.takeNmi ∨ t = s.sample.takeIrq ∨
      exec s.fetchInstr s.sample = .next t := by
  unfold step boundaryStep at h
  split at h
  · cases h
  split at h
  case isTrue hr => cases h; exact .inl ⟨hr, rfl⟩
  split at h
  · cases h; exact .inr (.inl rfl)
  split at h
  · cases h; exact .inr (.inr (.inl rfl))
  · exact .inr (.inr (.inr h))

/-- With no stop and no event a step runs the fetched instruction (R27, R56, R316). -/
theorem step_eq_exec_fetchInstr {s : State} (hstop : s.cfg.stopAddress ≠ some s.pc)
    (hreset : s.inputsNow.reset = false) (hpending : s.nmiPending = false)
    (hedge : s.inputsNow.nmiEdge = false) (hirq : s.inputsNow.irqLine = false ∨ s.p.i = true) :
    step s = exec s.fetchInstr s.sample := by
  have hirq' : s.takesIrq = false := by
    rcases hirq with h | h <;> simp [State.takesIrq, h]
  simp [step, boundaryStep, State.atStop, hstop, hreset, hpending, hedge, hirq']

/-- The entry of an NMI, from the state with the latch cleared. -/
theorem takeNmi_frame (s : State) :
    Frame (entryFields s.cfg.trapClearsD) (s.setNmiPending false) s.takeNmi :=
  Frame.takeException (s.setNmiPending false) s.pc false nmiVector

/-- The entry of an IRQ. -/
theorem takeIrq_frame (s : State) : Frame (entryFields s.cfg.trapClearsD) s s.takeIrq :=
  Frame.takeException s s.pc false irqVector

end Sys2Proof.Machine
end

section
/-! PROOF. Memory in canonical form is determined by what it reads as. -/

namespace Sys2Proof.Machine

/-- An address without a cell reads as an unlisted one. -/
theorem Memory.read_of_forall_ne {m : Memory} {a : Nat} (h : ∀ c ∈ m, c.1 ≠ a) :
    m.read a = Memory.unlisted := by
  induction m with
  | nil => rfl
  | cons c rest ih =>
    rw [Memory.read, if_neg (h c (by simp))]
    exact ih fun d hd => h d (by simp [hd])

/-- Among rising addresses a cell is the one that is read. -/
theorem Memory.read_of_mem {m : Memory} (h : m.Pairwise (fun c d => c.1 < d.1)) {c : Host.Cell} (hc : c ∈ m) :
    m.read c.1 = c.2 := by
  induction h with
  | nil => simp at hc
  | @cons d rest hd _ ih =>
    rcases List.mem_cons.1 hc with rfl | hc
    · simp [Memory.read]
    · rw [Memory.read, if_neg (hd c hc).ne, ih hc]

/-- The cells of a canonical memory are the addresses that read as something else than an unlisted one. -/
theorem Memory.mem_iff_read {m : Memory} (h : m.wf) (c : Host.Cell) :
    c ∈ m ↔ c.1 < 65536 ∧ m.read c.1 = c.2 ∧ c.2 ≠ Memory.unlisted := by
  obtain ⟨hsorted, hcells⟩ := h
  constructor
  · intro hc
    obtain ⟨hlt, hne⟩ := hcells c hc
    exact ⟨hlt, Memory.read_of_mem hsorted hc, hne⟩
  · rintro ⟨-, hread, hne⟩
    by_contra hc
    have hfree : ∀ d ∈ m, d.1 ≠ c.1 := fun d hd e =>
      hc (by rwa [show c = d from Prod.ext e.symm (by rw [← hread, ← e, Memory.read_of_mem hsorted hd])])
    exact hne (by rw [← hread, Memory.read_of_forall_ne hfree])

/-- Canonical memories that read the same have the same cells, in the one order there is. -/
theorem Memory.eq_of_readByte_eq {m m' : Memory} (h : m.wf) (h' : m'.wf)
    (heq : ∀ a : Word, m.readByte a = m'.readByte a) : m = m' := by
  have hread : ∀ a < 65536, m.read a = m'.read a := fun a ha => by
    simpa [Memory.readByte, Nat.mod_eq_of_lt ha] using heq (BitVec.ofNat 16 a)
  refine List.Perm.eq_of_pairwise (fun c d _ _ hcd hdc => absurd hcd hdc.asymm) h.1 h'.1 ?_
  refine (List.perm_ext_iff_of_nodup ?_ ?_).2 fun c => ?_
  · exact h.1.imp fun hlt e => hlt.ne (congrArg Prod.fst e)
  · exact h'.1.imp fun hlt e => hlt.ne (congrArg Prod.fst e)
  · rw [Memory.mem_iff_read h, Memory.mem_iff_read h']
    exact and_congr_right fun ha => by rw [hread c.1 ha]

end Sys2Proof.Machine
end

section
/-! PROOF. The statements on the state: what every step keeps, what each instruction may write, the status byte,
and reset. -/

namespace Sys2Proof.Proofs

open Sys2Proof.Machine Sys2Proof.Claims

/-- Settles O9: the frame of an instruction and of an entry keeps the form, and RESET writes no memory. -/
theorem stepKeepsMemoryCanonical : Obligations.StepKeepsMemoryCanonical := by
  intro s t hwf hstep
  obtain ⟨-, rfl⟩ | rfl | rfl | hexec := step_cases hstep
  · exact hwf
  · exact (takeNmi_frame s.sample).wf hwf
  · exact (takeIrq_frame s.sample).wf hwf
  · exact (exec_frame hexec).wf hwf

/-- TAB moves A to B (R163). -/
theorem exec_tab_b {s t : State} (h : exec .tab s = .next t) : t.b = s.a := by
  cases h; rfl

/-- Settles O21: an entry keeps B, and an instruction that changes it has the opcode of TAB. -/
theorem onlyTabOrResetChangesB : Obligations.OnlyTabOrResetChangesB := by
  intro s t hstep hb
  obtain ⟨hreset, -⟩ | rfl | rfl | hexec := step_cases hstep
  · exact .inl hreset
  · exact absurd (State.takeException_b _ _ _ _) hb
  · exact absurd (State.takeException_b _ _ _ _) hb
  · have hlisted : opcodeOf s.fetchInstr ∈ bWriters :=
      of_decide_eq_true (exec_listed hexec (f := .reg .b) hb)
    have hop : s.readByte s.pc = 0x5B#8 := by
      simpa [opcodeOf_fetchInstr, bWriters] using hlisted
    have htab : s.fetchInstr = .tab := by
      rw [State.fetchInstr, hop]; rfl
    rw [htab] at hexec
    exact .inr ⟨hop, exec_tab_b (s := s.sample) hexec⟩

/-- Settles O8. -/
theorem canonicalMemoryIsUnique : Obligations.CanonicalMemoryIsUnique :=
  fun _ _ => Memory.eq_of_readByte_eq

/-- Settles O22: each field by the table of writes. -/
theorem registerAndMemoryWriters : Obligations.RegisterAndMemoryWriters := by
  intro i s t h
  have hframe := exec_frame h
  exact ⟨fun hc => of_decide_eq_true (exec_listed h (f := .reg .a) hc),
    fun hc => of_decide_eq_true (exec_listed h (f := .reg .x) hc),
    fun hc => of_decide_eq_true (exec_listed h (f := .reg .y) hc),
    fun hc => of_decide_eq_true (exec_listed h (f := .reg .z) hc),
    fun hc => of_decide_eq_true (exec_listed h (f := .reg .b) hc),
    fun hc => of_decide_eq_true (exec_listed h (f := .reg .sp) hc),
    fun hc => of_decide_eq_true (exec_listed h (f := .mem) hc),
    fun hc => of_decide_eq_true (exec_listed h (f := .drawn) hc),
    hframe.nmiPending, hframe.inputs, hframe.cfg⟩

/-- Settles O23: each flag by the table of writes. -/
theorem flagWriters : Obligations.FlagWriters := by
  intro i s t h
  have hsource : trbTsbWriteNV s.cfg = true ↔ s.cfg.trbTsbFlags = .source := decide_eq_true_iff
  rw [← hsource]
  exact ⟨fun hc => of_decide_eq_true (exec_listed h (f := .flag .n) hc),
    fun hc => of_decide_eq_true (exec_listed h (f := .flag .v) hc),
    fun hc => of_decide_eq_true (exec_listed h (f := .flag .d) hc),
    fun hc => of_decide_eq_true (exec_listed h (f := .flag .i) hc),
    fun hc => of_decide_eq_true (exec_listed h (f := .flag .z) hc),
    fun hc => of_decide_eq_true (exec_listed h (f := .flag .c) hc)⟩

/-- The status byte as a number (R29). -/
theorem toNat_pack (p : Status) (b : Bool) :
    (p.pack b).toNat = 128 * one p.n + 64 * one p.v + 32 + 16 * one b + 8 * one p.d + 4 * one p.i +
      2 * one p.z + one p.c := by
  obtain ⟨n, v, d, i, z, c⟩ := p
  revert n v d i z c b
  decide

/-- Bits 5 and 4 of a pulled status byte are discarded (R30). -/
theorem unpack_xor_0x30 (v : Byte) : Status.unpack (v ^^^ 0x30#8) = Status.unpack v := by
  simp [Status.unpack]

/-- Settles O24. -/
theorem statusByteLayout : Obligations.StatusByteLayout :=
  ⟨toNat_pack, fun _ => rfl, Status.unpack_pack, unpack_xor_0x30⟩

/-- Settles O10: the reset state lists no cell. -/
theorem resetMemoryIsCanonical : Obligations.ResetMemoryIsCanonical := Memory.wf_nil

/-- Settles O11. -/
theorem resetValues : Obligations.ResetValues := ⟨rfl, rfl, rfl, rfl, rfl, rfl⟩

/-- Settles O16: the decoded instruction is the fetched one, and no line changes what is fetched. -/
theorem stepRunsTheDecodedInstruction : Obligations.StepRunsTheDecodedInstruction := by
  intro s i rest hstop hreset hpending hedge hirq hdecode
  rw [step_eq_exec_fetchInstr hstop hreset hpending hedge hirq, eq_fetchInstr_of_decode hdecode,
    State.sample_eq_of_no_nmi hpending hedge]

end Sys2Proof.Proofs
end

section
/-! PROOF. What loads and stores do, in the terms of the statements: one byte, and words of two bytes. -/

namespace Sys2Proof.Machine

open Sys2Proof.Claims

/-! The two bytes of a word, as of a number (R53). -/

@[simp] theorem lowByte_toNat (w : Word) : lowByte w.toNat = loByte w := by
  apply BitVec.eq_of_toNat_eq
  simp [lowByte, loByte]

@[simp] theorem highByte_toNat (w : Word) : highByte w.toNat = hiByte w := by
  apply BitVec.eq_of_toNat_eq
  simp [highByte, hiByte, Nat.shiftRight_eq_div_pow]

/-- Two bytes joined, the high one read at `hi` and the low one at `lo`, are the word at these addresses. -/
theorem State.toNat_joinBytes_readByte (s : State) (lo hi : Word) :
    (joinBytes (s.readByte hi) (s.readByte lo)).toNat = wordAt s lo hi := by
  rw [toNat_joinBytes, wordAt, Nat.add_comm]

/-- A word is read low byte first, across the wrap at `$FFFF` (R54). -/
theorem State.toNat_readWord (s : State) (a : Word) : (s.readWord a).toNat = wordAt s a (a + 1#16) :=
  s.toNat_joinBytes_readByte a (a + 1#16)

/-- A base-page word is read low byte first, within page B (R130). -/
theorem State.toNat_readWordBp (s : State) (nn : Byte) :
    (s.readWordBp nn).toNat = wordAt s (s.bpAddr nn) (s.bpAddr (nn + 1#8)) :=
  s.toNat_joinBytes_readByte (s.bpAddr nn) (s.bpAddr (nn + 1#8))

/-! Stores (R51, R54, R130). -/

theorem State.storesOne_writeByte (s : State) (a : Word) (v : Byte) : storesOne s (s.writeByte a v) a v :=
  fun b => s.readByte_writeByte a b v

/-- A byte store changes nothing but memory. -/
@[simp] theorem State.setMem_writeByte (s : State) (a : Word) (v : Byte) (m : Memory) :
    (s.writeByte a v).setMem m = s.setMem m := rfl

@[simp] theorem State.setMem_mem_self (s : State) : s.setMem s.mem = s := rfl

theorem State.storesTwo_writeWord (s : State) (a v : Word) :
    storesTwo s (s.writeWord a v) a (lowByte v.toNat) (a + 1#16) (highByte v.toNat) := by
  intro b
  rw [lowByte_toNat, highByte_toNat, State.readByte_writeWord]

theorem State.storesTwo_writeWordBp (s : State) (nn : Byte) (v : Word) :
    storesTwo s (s.writeWordBp nn v) (s.bpAddr nn) (lowByte v.toNat) (s.bpAddr (nn + 1#8)) (highByte v.toNat) := by
  intro b
  rw [lowByte_toNat, highByte_toNat, State.readByte_writeWordBp]

end Sys2Proof.Machine
end

section
/-! PROOF. The statements on memory (20_memory.md). -/

namespace Sys2Proof.Proofs

open Sys2Proof.Machine Sys2Proof.Claims

/-- Settles O7: both loads join the two bytes read, and both stores write the two bytes of the word at
addresses that differ. -/
theorem wordsAreLittleEndian : Obligations.WordsAreLittleEndian := fun s a nn v =>
  ⟨s.toNat_readWord a, s.storesTwo_writeWord a v, s.toNat_readWordBp nn, s.storesTwo_writeWordBp nn v⟩

/-- Settles O6: the read-after-write law of the memory primitives, and a store changes memory alone. -/
theorem readAfterWrite : Obligations.ReadAfterWrite := by
  intro s a v
  refine ⟨s.storesOne_writeByte a v, ?_⟩
  rw [State.setMem_writeByte, State.setMem_mem_self]

end Sys2Proof.Proofs
end

section
/-! PROOF. The decoder and the encoder: an opcode's format (R81), the bytes of what an opcode decodes to, and
the opcode and operands of every instruction read back. -/

namespace Sys2Proof

open Sys2Proof.Machine Sys2Proof.Claims

/-! Lengths (R80, R90, R92). -/

/-- The opcode gives a length of 1, 2 or 3: by the map of R89, or by the form of INW and DEW (R96). -/
theorem opcodeLength_eq_one_or_two_or_three (cfg : Config) (op : Byte) :
    opcodeLength cfg op = 1 ∨ opcodeLength cfg op = 2 ∨ opcodeLength cfg op = 3 := by
  have formLength_eq (form : WordForm) : formLength form = 1 ∨ formLength form = 2 ∨ formLength form = 3 := by
    cases form <;> decide
  unfold opcodeLength
  split
  · exact formLength_eq _
  split
  · exact formLength_eq _
  · revert op
    decide +kernel

theorem opcodeLength_range (cfg : Config) (op : Byte) : 1 ≤ opcodeLength cfg op ∧ opcodeLength cfg op ≤ 3 := by
  have h := opcodeLength_eq_one_or_two_or_three cfg op
  omega

/-! The operand bytes by the formats of R81. -/

/-- The operand bytes that an opcode takes of the two bytes after it: none, one (F2), or two, which are a word
(F3) except in the column of BBRi and BBSi (F3B). -/
def operandBytes (cfg : Config) (op b1 b2 : Byte) : List Byte :=
  match opcodeLength cfg op with
  | 1 => []
  | 2 => [b1]
  | _ => if op.extractLsb' 0 4 = 0xF#4 then [b1, b2] else leBytes (joinBytes b2 b1)

theorem leBytes_joinBytes (hi lo : Byte) : leBytes (joinBytes hi lo) = [lo, hi] := by
  rw [leBytes, loByte_joinBytes, hiByte_joinBytes]

/-- In every format the operand bytes are the first ones after the opcode, as many as the length says. -/
theorem operandBytes_eq_take (cfg : Config) (op b1 b2 : Byte) :
    operandBytes cfg op b1 b2 = [b1, b2].take (opcodeLength cfg op - 1) := by
  unfold operandBytes
  obtain h | h | h := opcodeLength_eq_one_or_two_or_three cfg op <;> simp [h, leBytes_joinBytes]

/-! From bytes to an instruction and back. -/

/-- What an opcode decodes to has that opcode and the operand bytes of its format. -/
theorem encode_decodeOpcode_eq_cons (cfg : Config) (op b1 b2 : Byte) :
    encode (decodeOpcode cfg op b1 b2) = op :: operandBytes cfg op b1 b2 := by
  have key : ∀ (cfg : Config), ∀ n < 256, encode (decodeOpcode cfg (BitVec.ofNat 8 n) b1 b2) =
      BitVec.ofNat 8 n :: operandBytes cfg (BitVec.ofNat 8 n) b1 b2 := by
    rintro ⟨_, _ | _, _ | _, _, _, _, _⟩ n hn <;> interval_cases n <;> rfl
  simpa using key cfg op.toNat op.isLt

theorem encode_decodeOpcode (cfg : Config) (op b1 b2 : Byte) :
    encode (decodeOpcode cfg op b1 b2) = op :: [b1, b2].take (opcodeLength cfg op - 1) := by
  rw [encode_decodeOpcode_eq_cons, operandBytes_eq_take]

theorem length_encode_decodeOpcode (cfg : Config) (op b1 b2 : Byte) :
    (encode (decodeOpcode cfg op b1 b2)).length = opcodeLength cfg op := by
  have h := opcodeLength_range cfg op
  rw [encode_decodeOpcode]
  simp only [List.length_cons, List.length_take, List.length_nil]
  omega

/-- Only INW and DEW depend on the configuration (R96). -/
theorem wellFormed_of_opcodeOf_ne {cfg : Config} {i : Instr} (hinw : opcodeOf i ≠ 0xE3#8)
    (hdew : opcodeOf i ≠ 0xC3#8) : i.wellFormed cfg = true := by
  cases i with
  | inw => exact absurd rfl hinw
  | dew => exact absurd rfl hdew
  | _ => rfl

theorem hasForm_wordOperand (form : WordForm) (b1 b2 : Byte) : (wordOperand form b1 b2).hasForm form = true := by
  cases form <;> rfl

theorem wellFormed_decodeOpcode (cfg : Config) (op b1 b2 : Byte) :
    (decodeOpcode cfg op b1 b2).wellFormed cfg = true := by
  by_cases hinw : op = 0xE3#8
  · subst hinw; exact hasForm_wordOperand cfg.inwOperand b1 b2
  by_cases hdew : op = 0xC3#8
  · subst hdew; exact hasForm_wordOperand cfg.dewOperand b1 b2
  · apply wellFormed_of_opcodeOf_ne <;> rwa [opcodeOf_decodeOpcode]

/-! From an instruction to bytes and back. -/

/-- An opcode that makes an instruction of a word makes it of the word's two bytes. -/
theorem decodeOpcode_loByte_hiByte {cfg : Config} {op : Byte} {f : Word → Instr}
    (hf : ∀ hi lo, decodeOpcode cfg op lo hi = f (joinBytes hi lo)) (w : Word) :
    decodeOpcode cfg op (loByte w) (hiByte w) = f w := by
  rw [hf, joinBytes_hi_lo]

/-- The operand of INW or DEW is read back in the form that the parameter selects (R96). -/
theorem wordOperand_encodeWordOperand {form : WordForm} {op : WordOperand} (h : op.hasForm form = true)
    (rest : List Byte) :
    wordOperand form ((encodeWordOperand op ++ rest).getD 0 0#8) ((encodeWordOperand op ++ rest).getD 1 0#8) =
      op := by
  cases op with
  | abs nnnn =>
    cases form with
    | abs => exact congrArg WordOperand.abs (joinBytes_hi_lo nnnn)
    | bp => cases h
  | bp nn =>
    cases form with
    | abs => cases h
    | bp => rfl

theorem encode_eq_cons (i : Instr) : encode i = opcodeOf i :: (encode i).tail := by
  cases i <;> rfl

/-- An instruction's opcode and the two bytes after it, its own or those that follow, decode to it. -/
theorem decodeOpcode_encode {cfg : Config} {i : Instr} (h : i.wellFormed cfg = true) (rest : List Byte) :
    decodeOpcode cfg (opcodeOf i) (((encode i).tail ++ rest).getD 0 0#8)
      (((encode i).tail ++ rest).getD 1 0#8) = i := by
  cases i <;> simp only [opcodeOf, encode, List.headD_cons, List.tail_cons]
  case inw op => exact congrArg Instr.inw (wordOperand_encodeWordOperand h rest)
  case dew op => exact congrArg Instr.dew (wordOperand_encodeWordOperand h rest)
  case ldaAbs | ldaAbsy | ldaAbsx | ldxAbs | ldxAbsy | ldyAbs | ldyAbsx | ldzAbs | ldzAbsx | staAbs | staAbsy
    | staAbsx | stxAbs | stxAbsy | styAbsx | styAbs | stzAbs | stzAbsx | phwImm16 | phwAbs | adcAbs | adcAbsy
    | adcAbsx | sbcAbs | sbcAbsy | sbcAbsx | andAbs | andAbsy | andAbsx | oraAbs | oraAbsy | oraAbsx | eorAbs
    | eorAbsy | eorAbsx | cmpAbs | cmpAbsy | cmpAbsx | cpxAbs | cpyAbs | cpzAbs | bitAbs | bitAbsx | incAbs
    | incAbsx | decAbs | decAbsx | aslAbs | aslAbsx | lsrAbs | lsrAbsx | rolAbs | rolAbsx | rorAbs | rorAbsx
    | asw | row | trbAbs | tsbAbs | bccRel16 | bcsRel16 | beqRel16 | bmiRel16 | bneRel16 | bplRel16 | bvcRel16
    | bvsRel16 | braRel16 | bsr | jmpAbs | jmpAbsInd | jmpAbsxInd | jsrAbs | jsrAbsInd | jsrAbsxInd =>
    exact decodeOpcode_loByte_hiByte (fun _ _ => rfl) _
  all_goals rfl

theorem length_encode {cfg : Config} {i : Instr} (h : i.wellFormed cfg = true) :
    (encode i).length = opcodeLength cfg (opcodeOf i) := by
  rw [← congrArg encode (decodeOpcode_encode h []), length_encode_decodeOpcode]

/-! The decoder on a list of bytes. -/

/-- A list that is long enough for its opcode decodes (R80, R90). -/
theorem decode_cons {cfg : Config} {op : Byte} {tail : List Byte} (h : opcodeLength cfg op - 1 ≤ tail.length) :
    decode cfg (op :: tail) =
      .ok (decodeOpcode cfg op (tail.getD 0 0#8) (tail.getD 1 0#8), tail.drop (opcodeLength cfg op - 1)) :=
  if_neg (by omega)

/-- Nothing else decodes. -/
theorem exists_cons_of_decode {cfg : Config} {bytes : List Byte} {r : Instr × List Byte}
    (h : decode cfg bytes = .ok r) :
    ∃ op tail, bytes = op :: tail ∧ opcodeLength cfg op - 1 ≤ tail.length := by
  cases bytes with
  | nil => cases h
  | cons op tail =>
    refine ⟨op, tail, rfl, ?_⟩
    rw [decode] at h
    split at h
    · cases h
    · omega

theorem take_getD_pair {k : Nat} {tail : List Byte} (hk : k ≤ 2) (ht : k ≤ tail.length) :
    [tail.getD 0 0#8, tail.getD 1 0#8].take k = tail.take k := by
  match k, tail, ht with
  | 0, _, _ => rfl
  | 1, _ :: _, _ => rfl
  | 2, _ :: _ :: _, _ => rfl

end Sys2Proof
end

section
/-! PROOF. The statements on the encoding (30_encoding.md). -/

namespace Sys2Proof.Proofs

open Sys2Proof.Machine Sys2Proof.Claims

/-- Settles O1: the opcode and operands read back, and the length is that of the instruction's own bytes. -/
theorem decodeInvertsEncode : Obligations.DecodeInvertsEncode := by
  intro cfg i rest h
  have hlen : opcodeLength cfg (opcodeOf i) - 1 = (encode i).tail.length := by
    rw [← length_encode h, List.length_tail]
  have hfits : opcodeLength cfg (opcodeOf i) - 1 ≤ ((encode i).tail ++ rest).length := by
    rw [hlen, List.length_append]
    exact Nat.le_add_right _ _
  rw [encode_eq_cons, List.cons_append, decode_cons hfits, decodeOpcode_encode h, hlen, List.drop_left]

/-- Settles O2: the instruction's bytes are the opcode and the operand bytes taken, and the rest is what was
not taken. -/
theorem encodeInvertsDecode : Obligations.EncodeInvertsDecode := by
  intro cfg bytes i rest h
  obtain ⟨op, tail, rfl, hfits⟩ := exists_cons_of_decode h
  have hle : opcodeLength cfg op - 1 ≤ 2 := by have := opcodeLength_range cfg op; omega
  rw [decode_cons hfits] at h
  cases h
  refine ⟨?_, wellFormed_decodeOpcode _ _ _ _⟩
  rw [encode_decodeOpcode, take_getD_pair hle hfits, List.cons_append, List.take_append_drop]

/-- Settles O3: three bytes are enough for every opcode. -/
theorem everyByteSequenceDecodes : Obligations.EveryByteSequenceDecodes := by
  intro cfg op b1 b2 rest
  obtain ⟨hpos, hle⟩ := opcodeLength_range cfg op
  have hfits : opcodeLength cfg op - 1 ≤ (b1 :: b2 :: rest).length := by
    simp only [List.length_cons]
    omega
  exact ⟨_, _, decode_cons hfits, length_encode_decodeOpcode _ _ _ _, hpos, hle⟩

/-- Settles O4: the number of an entry of a list is the bit number. -/
theorem bitNumberIsInTheOpcode : Obligations.BitNumberIsInTheOpcode := by
  intro nn dd
  simp only [List.forall_mem_zipIdx']
  refine ⟨?_, ?_, ?_, ?_⟩ <;>
    · intro i hi
      change i < 8 at hi
      interval_cases i <;> rfl

/-- Settles O5: each of the words is the encoding of its instruction. -/
theorem sampleWordsDecode : Obligations.SampleWordsDecode :=
  have decodes (i : Instr) (rest : List Byte) (h : i.wellFormed Config.default = true) :=
    decodeInvertsEncode Config.default i rest h
  ⟨decodes (.ldaIndz 0x40#8) [] rfl, decodes .asrAcc [0x99#8] rfl, decodes (.jsrAbs 0xD000#16) [] rfl,
    decodes (.bbr7 0x10#8 0xFD#8) [] rfl, decodes (.phwImm16 0x1234#16) [] rfl,
    decodes (.dew (.bp 0x10#8)) [0xEA#8] rfl, decodes (.inw (.abs 0x3000#16)) [] rfl,
    decodes (.bvcRel16 0xFFFD#16) [] rfl⟩

end Sys2Proof.Proofs
end

section
/-! PROOF. Which steps go on: an event that is taken, and every instruction but the four unknown ones. -/

namespace Sys2Proof.Machine

open Sys2Proof.Claims Sys2Proof.Safety

/-- No instruction answers a fault (R310). -/
theorem exec_ne_fault (i : Instr) (s : State) (f : Fault) : exec i s ≠ .fault f := by
  intro h
  have hframed := exec_framed i s
  rwa [h] at hframed

theorem not_exists_next_of_refused {i : Instr} {s : State} {r : Refusal} (h : exec i s = .refused r) :
    ¬ ∃ t, exec i s = .next t := by
  simp [h]

/-- An instruction answers a next state unless its opcode is one of the four unknown ones (R91). -/
theorem exec_eq_next_iff (i : Instr) (s : State) :
    (∃ t, exec i s = .next t) ↔ unknownOpcode (opcodeOf i) = false := by
  cases i with
  | rtsImm | cle | see | map => exact iff_of_false (not_exists_next_of_refused rfl) Bool.false_ne_true.symm
  | _ => exact iff_of_true ⟨_, rfl⟩ rfl

/-- An event that is taken answers a next state, whatever the opcode is (R314, R317). -/
theorem goesOn_of_event {s : State} (hstop : s.cfg.stopAddress ≠ some s.pc)
    (h : s.inputsNow.reset = true ∨ s.nmiPending = true ∨ s.inputsNow.nmiEdge = true ∨
      (s.inputsNow.irqLine = true ∧ s.p.i = false)) : goesOn s := by
  have hat : s.atStop = false := decide_eq_false hstop
  unfold goesOn step boundaryStep
  rw [hat, if_neg Bool.false_ne_true]
  split
  · exact ⟨_, rfl⟩
  split
  · exact ⟨_, rfl⟩
  split
  · exact ⟨_, rfl⟩
  next hreset hnmi hirq => simp_all [State.takesIrq]

/-- Without an event the opcode at PC decides. -/
theorem goesOn_iff_of_no_event {s : State} (hstop : s.cfg.stopAddress ≠ some s.pc)
    (hreset : s.inputsNow.reset = false) (hpending : s.nmiPending = false)
    (hedge : s.inputsNow.nmiEdge = false) (hirq : s.inputsNow.irqLine = false ∨ s.p.i = true) :
    goesOn s ↔ unknownOpcode (s.readByte s.pc) = false := by
  rw [goesOn, step_eq_exec_fetchInstr hstop hreset hpending hedge hirq, exec_eq_next_iff,
    opcodeOf_fetchInstr]

end Sys2Proof.Machine
end

section
/-! PROOF. INW and DEW (R212, R213). -/

namespace Sys2Proof.Machine

open Sys2Proof.Claims

theorem State.toNat_load16 (s : State) (op : WordOperand) :
    (s.load16 op).toNat = wordAt s (wordAddresses s op).1 (wordAddresses s op).2 := by
  cases op with
  | abs nnnn => exact s.toNat_readWord nnnn
  | bp nn => exact s.toNat_readWordBp nn

theorem State.storesTwo_store16 (s : State) (op : WordOperand) (v : Word) :
    storesTwo s (s.store16 op v) (wordAddresses s op).1 (lowByte v.toNat) (wordAddresses s op).2
      (highByte v.toNat) := by
  cases op with
  | abs nnnn => exact s.storesTwo_writeWord nnnn v
  | bp nn => exact s.storesTwo_writeWordBp nn v

theorem wordOperandLength_eq (op : WordOperand) :
    wordOperandLength op = 1 + (encodeWordOperand op).length := by
  cases op <;> rfl

/-- The flags of a word are those of its number. -/
theorem State.setNZ16_eq_setP_nz16 (s : State) (v : Word) : s.setNZ16 v = s.setP (nz16 s.p v) := by
  simp [State.setNZ16, nz16, BitVec.toNat_eq]

/-- What both INW and DEW do with their result `v`: store it, set N and Z from it and go on. -/
def State.replaceWord (s : State) (op : WordOperand) (v : Word) : State :=
  ((s.store16 op v).setNZ16 v).advance (wordOperandLength op)

theorem State.incrementWord_eq_replaceWord (s : State) (op : WordOperand) :
    s.incrementWord op = s.replaceWord op (s.load16 op + 1#16) := rfl

theorem State.decrementWord_eq_replaceWord (s : State) (op : WordOperand) :
    s.decrementWord op = s.replaceWord op (s.load16 op - 1#16) := rfl

theorem State.storesTwo_replaceWord (s : State) (op : WordOperand) (v : Word) :
    storesTwo s (s.replaceWord op v) (wordAddresses s op).1 (lowByte v.toNat) (wordAddresses s op).2
      (highByte v.toNat) :=
  s.storesTwo_store16 op v

theorem State.setMem_replaceWord (s : State) (op : WordOperand) (v : Word) :
    (s.replaceWord op v).setMem s.mem = { s with
      p := nz16 s.p (BitVec.ofNat 16 v.toNat)
      pc := s.pc + BitVec.ofNat 16 (1 + (encodeWordOperand op).length) } := by
  rw [State.replaceWord, wordOperandLength_eq, State.setNZ16_eq_setP_nz16, BitVec.ofNat_toNat,
    BitVec.setWidth_eq]
  cases op <;> rfl

end Sys2Proof.Machine
end

section
/-! PROOF. The statements on what ends a run, and on INW and DEW. -/

namespace Sys2Proof.Proofs

open Sys2Proof.Machine Sys2Proof.Claims

/-- Settles O20: an event is taken, or the opcode at PC decides. -/
theorem onlyUnknownOpcodesEndARun : Obligations.OnlyUnknownOpcodesEndARun := by
  refine ⟨fun s hstop => ?_, exec_ne_fault⟩
  by_cases hevent : s.inputsNow.reset = true ∨ s.nmiPending = true ∨ s.inputsNow.nmiEdge = true ∨
      (s.inputsNow.irqLine = true ∧ s.p.i = false)
  · exact iff_of_true (goesOn_of_event hstop hevent) (by tauto)
  · simp only [not_or, not_and_or, Bool.not_eq_true, Bool.not_eq_false] at hevent
    obtain ⟨hreset, hpending, hedge, hirq⟩ := hevent
    rw [goesOn_iff_of_no_event hstop hreset hpending hedge hirq]
    obtain hirq | hirq := hirq <;> simp [hreset, hpending, hedge, hirq]

/-- Settles O43: both instructions replace the word by their result, whose number is the sum modulo 65536. -/
theorem incDecWordEffect : Obligations.IncDecWordEffect := by
  intro op s lo hi g hg
  have hinw : (s.load16 op + 1#16).toNat = (wordAt s lo hi + 1) % 65536 := by
    rw [BitVec.toNat_add, s.toNat_load16]; rfl
  have hdew : (s.load16 op - 1#16).toNat = (wordAt s lo hi + 65535) % 65536 := by
    rw [BitVec.toNat_sub, s.toNat_load16, Nat.add_comm]; rfl
  simp only [List.mem_cons, List.not_mem_nil, or_false] at hg
  obtain rfl | rfl := hg
  · exact ⟨rfl, _, congrArg Host.Outcome.next (s.incrementWord_eq_replaceWord op),
      hinw ▸ ⟨s.storesTwo_replaceWord op _, s.setMem_replaceWord op _⟩⟩
  · exact ⟨rfl, _, congrArg Host.Outcome.next (s.decrementWord_eq_replaceWord op),
      hdew ▸ ⟨s.storesTwo_replaceWord op _, s.setMem_replaceWord op _⟩⟩

end Sys2Proof.Proofs
end

section
/-! PROOF. The effective addresses as numbers (R112 to R124): addresses in the base page, base-page pointers,
and 16-bit indexing. -/

namespace Sys2Proof.Machine

open Sys2Proof.Claims

/-- The address `B:k` as a number, `k` taken modulo 256 (R112). -/
def State.pageNumber (s : State) (k : Nat) : Nat := 256 * s.b.toNat + k % 256

/-- The pointer at `B:k` as a number; its second byte lies in page B too (R121, R122, R124). -/
def State.pointerNumber (s : State) (k : Nat) : Nat :=
  wordAt s (BitVec.ofNat 16 (s.pageNumber k)) (BitVec.ofNat 16 (s.pageNumber (k + 1)))

theorem State.toNat_bpAddr_eq_pageNumber (s : State) {nn : Byte} {k : Nat} (h : nn.toNat = k % 256) :
    (s.bpAddr nn).toNat = s.pageNumber k := by
  rw [State.toNat_bpAddr, h, State.pageNumber]

theorem State.ofNat_pageNumber (s : State) {nn : Byte} {k : Nat} (h : nn.toNat = k % 256) :
    BitVec.ofNat 16 (s.pageNumber k) = s.bpAddr nn := by
  rw [← s.toNat_bpAddr_eq_pageNumber h, BitVec.ofNat_toNat, BitVec.setWidth_eq]

theorem State.toNat_readWordBp_eq_pointerNumber (s : State) {nn : Byte} {k : Nat} (h : nn.toNat = k % 256) :
    (s.readWordBp nn).toNat = s.pointerNumber k := by
  have hsucc : (nn + 1#8).toNat = (k + 1) % 256 := by
    rw [BitVec.toNat_add, h]; exact Nat.mod_add_mod k 256 1
  rw [s.toNat_readWordBp, State.pointerNumber, s.ofNat_pageNumber h, s.ofNat_pageNumber hsucc]

/-- Indexing a 16-bit address by a register wraps modulo 65536 (R119, R120). -/
theorem toNat_add_zext16 (w : Word) (v : Byte) : (w + zext16 v).toNat = (w.toNat + v.toNat) % 65536 := by
  rw [BitVec.toNat_add, zext16, BitVec.toNat_setWidth_of_le (by decide)]

/-- The slot from which `($nn,SP),Y` reads its pointer: the index is added to the whole address, so a carry
goes into the high byte and the slot may lie past page `$01` (R123). -/
theorem State.stackSlot_eq_ofNat (s : State) (nn : Byte) :
    0x0100#16 + zext16 s.sp + zext16 nn = BitVec.ofNat 16 (0x0100 + s.sp.toNat + nn.toNat) := by
  apply BitVec.eq_of_toNat_eq
  rw [toNat_add_zext16, toNat_add_zext16, BitVec.toNat_ofNat, Nat.mod_add_mod, BitVec.toNat_ofNat]

theorem State.toNat_readWord_ofNat (s : State) (k : Nat) :
    (s.readWord (BitVec.ofNat 16 k)).toNat = wordAt s (BitVec.ofNat 16 k) (BitVec.ofNat 16 (k + 1)) := by
  rw [s.toNat_readWord, BitVec.ofNat_add]

end Sys2Proof.Machine
end

section
/-! PROOF. The statement on the addressing modes (40_addressing_modes.md). -/

namespace Sys2Proof.Proofs

open Sys2Proof.Machine Sys2Proof.Claims

/-- Settles O25: base-page addresses and pointers are taken modulo 256, indexed words modulo 65536. -/
theorem effectiveAddresses : Obligations.EffectiveAddresses := by
  intro s nn nnnn page pointer slot
  have hnn : nn.toNat = nn.toNat % 256 := (Nat.mod_eq_of_lt nn.isLt).symm
  have hindexed (v : Byte) : (nn + v).toNat = (nn.toNat + v.toNat) % 256 := BitVec.toNat_add nn v
  have hindirect (v : Byte) : (s.readWordBp nn + zext16 v).toNat = (pointer nn.toNat + v.toNat) % 65536 := by
    rw [toNat_add_zext16, s.toNat_readWordBp_eq_pointerNumber hnn]; rfl
  refine ⟨?bp, ?bpx, ?bpy, ?abs, ?absx, ?absy, ?indx, ?indz, ?indsp, ?indy⟩
  case bp => exact s.toNat_bpAddr_eq_pageNumber hnn
  case bpx => exact s.toNat_bpAddr_eq_pageNumber (hindexed s.x)
  case bpy => exact s.toNat_bpAddr_eq_pageNumber (hindexed s.y)
  case abs => rfl
  case absx => exact toNat_add_zext16 nnnn s.x
  case absy => exact toNat_add_zext16 nnnn s.y
  case indx => exact s.toNat_readWordBp_eq_pointerNumber ((hindexed s.x).trans (Nat.mod_mod _ 256).symm)
  case indz => exact hindirect s.z
  case indsp => rw [State.ea, toNat_add_zext16, s.stackSlot_eq_ofNat, s.toNat_readWord_ofNat]
  case indy => exact hindirect s.y

end Sys2Proof.Proofs
end

section
/-! PROOF. What a row of a rule's table says of its instruction, and loads and stores as such rows
(41_load_store.md). -/

namespace Sys2Proof.Machine

open Sys2Proof.Claims

/-- The row `f` has the bytes of its instruction, as many as its operand's mode takes, and the instruction does
`op` with the operand in every state. -/
structure RunsAs {α : Type} (length : α → Nat) (op : State → α → State) (f : Form α) : Prop where
  encode_eq : encode f.instr = f.bytes
  length_eq : length f.operand = f.bytes.length
  exec_eq (s : State) : exec f.instr s = .next (op s f.operand)

/-! Loads (R140 to R143). The row lemmas split a table into its rows; in each row the encoder, the length and
`exec` of the constructor compute to what the row says. -/

/-- The flags of a byte are those of its number. -/
theorem State.setNZ_eq_setP_nz (s : State) (v : Byte) : s.setNZ v = s.setP (nz s.p v) := by
  simp [State.setNZ, nz, BitVec.toNat_eq]

theorem State.loadReg_eq (s : State) (r : Reg) (o : Source) :
    s.loadReg r o = ((s.setReg r (s.load8 o)).setP (nz s.p (s.load8 o))).setPc
      (s.pc + BitVec.ofNat 16 o.length) := by
  rw [State.loadReg, State.setNZ_eq_setP_nz, State.setReg_p]
  cases r <;> rfl

/-- What a load into register `r` leaves. -/
theorem RunsAs.load_effect {r : Reg} {f : Form Source}
    (h : RunsAs Source.length (·.loadReg r ·) f) (s : State) :
    encode f.instr = f.bytes ∧
    exec f.instr s = .next (((s.setReg r (s.load8 f.operand)).setP (nz s.p (s.load8 f.operand))).setPc
      (s.pc + BitVec.ofNat 16 f.bytes.length)) := by
  refine ⟨h.encode_eq, ?_⟩
  rw [h.exec_eq, State.loadReg_eq, h.length_eq]

section
variable {nn : Byte} {nnnn : Word} {f : Form Source}

theorem runsAs_of_mem_ldaForms (hf : f ∈ ldaForms nn nnnn) :
    RunsAs Source.length (·.loadReg .a ·) f := by
  fin_cases hf <;> exact ⟨rfl, rfl, fun _ => rfl⟩

theorem runsAs_of_mem_ldxForms (hf : f ∈ ldxForms nn nnnn) :
    RunsAs Source.length (·.loadReg .x ·) f := by
  fin_cases hf <;> exact ⟨rfl, rfl, fun _ => rfl⟩

theorem runsAs_of_mem_ldyForms (hf : f ∈ ldyForms nn nnnn) :
    RunsAs Source.length (·.loadReg .y ·) f := by
  fin_cases hf <;> exact ⟨rfl, rfl, fun _ => rfl⟩

theorem runsAs_of_mem_ldzForms (hf : f ∈ ldzForms nn nnnn) :
    RunsAs Source.length (·.loadReg .z ·) f := by
  fin_cases hf <;> exact ⟨rfl, rfl, fun _ => rfl⟩

end

/-! Stores (R144 to R147). -/

theorem State.storesOne_storeReg (s : State) (r : Reg) (m : MemOperand) :
    storesOne s (s.storeReg r m) (s.ea m) (s.reg r) :=
  s.storesOne_writeByte (s.ea m) (s.reg r)

theorem State.setMem_storeReg (s : State) (r : Reg) (m : MemOperand) :
    (s.storeReg r m).setMem s.mem = { s with pc := s.pc + BitVec.ofNat 16 m.length } := rfl

/-- What a store of register `r` leaves. -/
theorem RunsAs.store_effect {r : Reg} {f : Form MemOperand}
    (h : RunsAs MemOperand.length (·.storeReg r ·) f) (s : State) :
    encode f.instr = f.bytes ∧
    ∃ t, exec f.instr s = .next t ∧ storesOne s t (s.ea f.operand) (s.reg r) ∧
      t.setMem s.mem = { s with pc := s.pc + BitVec.ofNat 16 f.bytes.length } := by
  refine ⟨h.encode_eq, _, h.exec_eq s, s.storesOne_storeReg r f.operand, ?_⟩
  rw [State.setMem_storeReg, h.length_eq]

section
variable {nn : Byte} {nnnn : Word} {f : Form MemOperand}

theorem runsAs_of_mem_staForms (hf : f ∈ staForms nn nnnn) :
    RunsAs MemOperand.length (·.storeReg .a ·) f := by
  fin_cases hf <;> exact ⟨rfl, rfl, fun _ => rfl⟩

theorem runsAs_of_mem_stxForms (hf : f ∈ stxForms nn nnnn) :
    RunsAs MemOperand.length (·.storeReg .x ·) f := by
  fin_cases hf <;> exact ⟨rfl, rfl, fun _ => rfl⟩

theorem runsAs_of_mem_styForms (hf : f ∈ styForms nn nnnn) :
    RunsAs MemOperand.length (·.storeReg .y ·) f := by
  fin_cases hf <;> exact ⟨rfl, rfl, fun _ => rfl⟩

theorem runsAs_of_mem_stzForms (hf : f ∈ stzForms nn nnnn) :
    RunsAs MemOperand.length (·.storeReg .z ·) f := by
  fin_cases hf <;> exact ⟨rfl, rfl, fun _ => rfl⟩

end

end Sys2Proof.Machine
end

section
/-! PROOF. The statements on loads and stores (41_load_store.md). -/

namespace Sys2Proof.Proofs

open Sys2Proof.Machine Sys2Proof.Claims

/-- Settles O28: every row of STA is the one store of A. -/
theorem staEffect : Obligations.StaEffect := fun _ _ s _ hf =>
  (runsAs_of_mem_staForms hf).store_effect s

/-- Settles O29: every row of STX, STY and STZ is the one store of its register. -/
theorem stxStyStzEffect : Obligations.StxStyStzEffect := fun _ _ s =>
  ⟨fun _ hf => (runsAs_of_mem_stxForms hf).store_effect s,
   fun _ hf => (runsAs_of_mem_styForms hf).store_effect s,
   fun _ hf => (runsAs_of_mem_stzForms hf).store_effect s⟩

/-- Settles O26: every row of LDA is the one load into A. -/
theorem ldaEffect : Obligations.LdaEffect := fun _ _ s _ hf =>
  (runsAs_of_mem_ldaForms hf).load_effect s

/-- Settles O27: every row of LDX, LDY and LDZ is the one load into its register. -/
theorem ldxLdyLdzEffect : Obligations.LdxLdyLdzEffect := fun _ _ s =>
  ⟨fun _ hf => (runsAs_of_mem_ldxForms hf).load_effect s,
   fun _ hf => (runsAs_of_mem_ldyForms hf).load_effect s,
   fun _ hf => (runsAs_of_mem_ldzForms hf).load_effect s⟩

end Sys2Proof.Proofs
end

section
/-! PROOF. Transfers, pushes and pulls in the terms of the statements (42_transfer_stack.md). -/

namespace Sys2Proof.Machine

open Sys2Proof.Claims

/-- The stack address of the statements is that of the model (R25). -/
theorem stackByte_eq_joinBytes (p : Byte) : stackByte p = joinBytes 0x01#8 p := rfl

/-! Moving a byte into a register (R160 to R171, R178, R180 to R182). -/

/-- What the instructions do that put a byte into a register and set N and Z from it. -/
theorem State.advance_setNZ_setReg (s : State) (r : Reg) (v : Byte) (len : Nat) :
    ((s.setReg r v).setNZ v).advance len =
      ((s.setReg r v).setP (nz s.p v)).setPc (s.pc + BitVec.ofNat 16 len) := by
  rw [State.setNZ_eq_setP_nz, State.setReg_p]
  cases r <;> rfl

theorem State.transferNZ_eq (s : State) (src dst : Reg) :
    s.transferNZ src dst =
      ((s.setReg dst (s.reg src)).setP (nz s.p (s.reg src))).setPc (s.pc + 1#16) :=
  s.advance_setNZ_setReg dst (s.reg src) 1

/-- The byte is read at the incremented SP, which is left incremented (R25). -/
theorem State.pullReg_eq (s : State) (r : Reg) :
    s.pullReg r = (((s.setSp (s.sp + 1#8)).setReg r (s.readByte (stackByte (s.sp + 1#8)))).setP
      (nz s.p (s.readByte (stackByte (s.sp + 1#8))))).setPc (s.pc + 1#16) := by
  rw [stackByte_eq_joinBytes]
  exact s.afterPull.advance_setNZ_setReg r s.pulled 1

/-! Pushes (R172 to R177). -/

theorem State.storesOne_advance_push (s : State) (v : Byte) (len : Nat) :
    storesOne s ((s.push v).advance len) (stackByte s.sp) v := by
  intro b
  rw [stackByte_eq_joinBytes]
  exact s.readByte_push v b

theorem State.setMem_advance_push (s : State) (v : Byte) (len : Nat) :
    ((s.push v).advance len).setMem s.mem =
      { s with sp := s.sp - 1#8, pc := s.pc + BitVec.ofNat 16 len } := rfl

/-- A word is pushed high byte first (R53, R177). -/
theorem State.storesTwo_pushWordOperand (s : State) (w : Word) :
    storesTwo s (s.pushWordOperand w) (stackByte s.sp) (highByte w.toNat)
      (stackByte (s.sp - 1#8)) (lowByte w.toNat) := by
  intro b
  rw [lowByte_toNat, highByte_toNat, stackByte_eq_joinBytes, stackByte_eq_joinBytes]
  exact s.readByte_pushWord w b

theorem State.setMem_pushWordOperand (s : State) (w : Word) :
    (s.pushWordOperand w).setMem s.mem = { s with sp := s.sp - 2#8, pc := s.pc + 3#16 } := by
  rw [State.pushWordOperand, State.pushWord_flat]
  rfl

end Sys2Proof.Machine
end

section
/-! PROOF. The statements on transfers and the stack (42_transfer_stack.md). -/

namespace Sys2Proof.Proofs

open Sys2Proof.Machine Sys2Proof.Claims

/-- Settles O31: every row is one push of its byte. -/
theorem pushEffect : Obligations.PushEffect := by
  intro s r hr
  have hencode : encode r.1 = [r.2.1] := by fin_cases hr <;> rfl
  have hexec : exec r.1 s = .next ((s.push r.2.2).advance 1) := by fin_cases hr <;> rfl
  exact ⟨hencode, _, hexec, s.storesOne_advance_push r.2.2 1, s.setMem_advance_push r.2.2 1⟩

/-- Settles O32: both rows push a word, the operand or the word read at it. -/
theorem pushWordEffect : Obligations.PushWordEffect := by
  intro nnnn s r hr
  have hencode : encode r.1 = [r.2.1, loByte nnnn, hiByte nnnn] := by fin_cases hr <;> rfl
  have hexec : ∃ w : Word, w.toNat = r.2.2 ∧ exec r.1 s = .next (s.pushWordOperand w) := by
    simp only [List.mem_cons, List.not_mem_nil, or_false] at hr
    obtain rfl | rfl := hr
    · exact ⟨nnnn, rfl, rfl⟩
    · exact ⟨s.readWord nnnn, s.toNat_readWord nnnn, rfl⟩
  obtain ⟨w, hw, hexec⟩ := hexec
  exact ⟨hencode, _, hexec, hw ▸ s.storesTwo_pushWordOperand w, s.setMem_pushWordOperand w⟩

/-- Settles O30: nine rows are a transfer that sets N and Z, the rows of TAB, TXS and TYS one that does not. -/
theorem transferEffect : Obligations.TransferEffect := by
  intro s
  simp only [List.forall_mem_cons]
  refine ⟨⟨rfl, ?tax⟩, ⟨rfl, ?tay⟩, ⟨rfl, ?taz⟩, ⟨rfl, ?tab⟩, ⟨rfl, ?tba⟩, ⟨rfl, ?txa⟩, ⟨rfl, ?tya⟩,
    ⟨rfl, ?tza⟩, ⟨rfl, ?tsx⟩, ⟨rfl, ?txs⟩, ⟨rfl, ?tsy⟩, ⟨rfl, ?tys⟩, List.forall_mem_nil _⟩
  case tax => exact congrArg Host.Outcome.next (s.transferNZ_eq .a .x)
  case tay => exact congrArg Host.Outcome.next (s.transferNZ_eq .a .y)
  case taz => exact congrArg Host.Outcome.next (s.transferNZ_eq .a .z)
  case tba => exact congrArg Host.Outcome.next (s.transferNZ_eq .b .a)
  case txa => exact congrArg Host.Outcome.next (s.transferNZ_eq .x .a)
  case tya => exact congrArg Host.Outcome.next (s.transferNZ_eq .y .a)
  case tza => exact congrArg Host.Outcome.next (s.transferNZ_eq .z .a)
  case tsx => exact congrArg Host.Outcome.next (s.transferNZ_eq .sp .x)
  case tsy => exact congrArg Host.Outcome.next (s.transferNZ_eq .sp .y)
  case tab | txs | tys => rfl

/-- Settles O33: four rows pull into a register and set N and Z; PLP pulls into the flags. -/
theorem pullEffect : Obligations.PullEffect := by
  intro s v
  simp only [List.forall_mem_cons]
  refine ⟨⟨rfl, ?pla⟩, ⟨rfl, ?plp⟩, ⟨rfl, ?plx⟩, ⟨rfl, ?ply⟩, ⟨rfl, ?plz⟩, List.forall_mem_nil _⟩
  case pla => exact congrArg Host.Outcome.next (s.pullReg_eq .a)
  case plp => rfl
  case plx => exact congrArg Host.Outcome.next (s.pullReg_eq .x)
  case ply => exact congrArg Host.Outcome.next (s.pullReg_eq .y)
  case plz => exact congrArg Host.Outcome.next (s.pullReg_eq .z)

end Sys2Proof.Proofs
end

section
/-! PROOF. The sums, differences and comparisons of the model as numbers (R191 to R194, R198), in the terms of
the statements. -/

namespace Sys2Proof.Machine

open Sys2Proof.Claims

theorem one_eq_toNat (c : Bool) : one c = c.toNat := by cases c <;> rfl

theorem one_flag_le_one (c : Bool) : one c ≤ 1 := by cases c <;> decide

/-! One up and one down, modulo 256. -/

theorem add_one_eq_ofNat (v : Byte) : v + 1#8 = BitVec.ofNat 8 (v.toNat + 1) := by
  apply BitVec.eq_of_toNat_eq
  simp

theorem sub_one_eq_ofNat (v : Byte) : v - 1#8 = BitVec.ofNat 8 (v.toNat + 255) := by
  apply BitVec.eq_of_toNat_eq
  simp [BitVec.toNat_sub, Nat.add_comm]

theorem zero_sub_eq_ofNat (v : Byte) : 0#8 - v = BitVec.ofNat 8 ((256 - v.toNat) % 256) := by
  apply BitVec.eq_of_toNat_eq
  simp

/-! Comparison (R198). -/

theorem getLsbD_seven_eq_decide (v : Byte) : v.getLsbD 7 = decide (128 ≤ v.toNat) :=
  (BitVec.msb_eq_getLsbD_last v).symm.trans (BitVec.msb_eq_decide v)

theorem getLsbD_seven_sub (r m : Byte) :
    (r - m).getLsbD 7 = decide (128 ≤ (256 + r.toNat - m.toNat) % 256) := by
  have hm := m.isLt
  rw [getLsbD_seven_eq_decide, BitVec.toNat_sub, decide_eq_decide]
  omega

/-! The binary sum (R191). -/

theorem binarySum_eq (a m : Byte) (c : Bool) : binarySum a m c = a.toNat + m.toNat + one c := by
  rw [binarySum, one_eq_toNat]

theorem and_0x80_ne_zero_iff_msb (v : Byte) : v &&& 0x80#8 ≠ 0#8 ↔ v.msb = true := by
  rw [show 0x80#8 = BitVec.twoPow 8 7 from rfl, BitVec.and_twoPow, BitVec.msb_eq_getLsbD_last]
  simp

/-- R191 finds V from the signs: it is set when both operands have the sign that the result has not. -/
theorem binaryOverflow_eq_decide_msb (a m : Byte) (c : Bool) :
    binaryOverflow a m c =
      decide (a.msb ≠ (binaryResult a m c).msb ∧ m.msb ≠ (binaryResult a m c).msb) := by
  rw [binaryOverflow, decide_eq_decide, and_0x80_ne_zero_iff_msb]
  simp

/-- The signs show the sums that, taken as signed, leave -128..127 (R214): in numbers each sign is a comparison
with 128, and each signed value the unsigned one, less 256 if it is negative. -/
theorem binaryOverflow_eq_decide_toInt (a m : Byte) (c : Bool) :
    binaryOverflow a m c = decide ((binaryResult a m c).toInt ≠ a.toInt + m.toInt + one c) := by
  have hr : (binaryResult a m c).toNat = (a.toNat + m.toNat + one c) % 256 := by
    rw [binaryResult, binarySum_eq, BitVec.toNat_ofNat]
  have hc := one_flag_le_one c
  have ha := a.isLt
  have hm := m.isLt
  rw [binaryOverflow_eq_decide_msb, decide_eq_decide]
  simp only [BitVec.msb_eq_decide, BitVec.toInt_eq_toNat_cond, hr]
  grind

/-! The binary difference: the sum with the complement (R193). -/

theorem toNat_xor_0xFF (m : Byte) : (m ^^^ 0xFF#8).toNat = 255 - m.toNat := by
  rw [show m ^^^ 0xFF#8 = ~~~m from BitVec.xor_allOnes, BitVec.toNat_not]

theorem toInt_xor_0xFF (m : Byte) : (m ^^^ 0xFF#8).toInt = -m.toInt - 1 := by
  have hm := m.isLt
  simp only [BitVec.toInt_eq_toNat_cond, toNat_xor_0xFF]
  omega

theorem binaryResult_xor_0xFF (a m : Byte) (c : Bool) :
    binaryResult a (m ^^^ 0xFF#8) c = BitVec.ofInt 8 (a.toNat - m.toNat - (1 - one c)) := by
  have hm := m.isLt
  apply BitVec.eq_of_toNat_eq
  rw [binaryResult, binarySum_eq, toNat_xor_0xFF, BitVec.toNat_ofNat, BitVec.toNat_ofInt]
  omega

theorem binaryCarry_xor_0xFF (a m : Byte) (c : Bool) :
    binaryCarry a (m ^^^ 0xFF#8) c = decide (m.toNat + (1 - one c) ≤ a.toNat) := by
  have hm := m.isLt
  have hc := one_flag_le_one c
  rw [binaryCarry, binarySum_eq, toNat_xor_0xFF, decide_eq_decide]
  omega

theorem binaryOverflow_xor_0xFF (a m : Byte) (c : Bool) :
    binaryOverflow a (m ^^^ 0xFF#8) c =
      decide ((binaryResult a (m ^^^ 0xFF#8) c).toInt ≠ a.toInt - m.toInt - (1 - one c)) := by
  have hdiff : a.toInt + (-m.toInt - 1) + one c = a.toInt - m.toInt - (1 - one c) := by omega
  rw [binaryOverflow_eq_decide_toInt, toInt_xor_0xFF, hdiff]

/-! Decimal numbers (R192, R194). -/

theorem validBcd_iff (v : Byte) : validBcd v = true ↔ isBcd v := by
  simp [validBcd, isBcd]

/-- The two digits lie in different nibbles, so joining them is adding them. -/
theorem toBcd_eq_bcd (n : Nat) : toBcd n = bcd n := by
  have hdigit : n % 10 < 2 ^ 4 := by omega
  have hjoin := Nat.two_pow_add_eq_or_of_lt hdigit (n / 10)
  rw [bcd, toBcd, show 16 = 2 ^ 4 from rfl, hjoin, BitVec.ofNat_or, BitVec.ofNat_mul,
    BitVec.shiftLeft_eq_mul_twoPow, BitVec.mul_comm]
  rfl

theorem decimalSum_eq (a m : Byte) (c : Bool) : decimalSum a m c = dec a + dec m + one c := by
  rw [one_eq_toNat]; rfl

theorem decimalDifference_eq (a m : Byte) (c : Bool) :
    decimalDifference a m c = dec a - (dec m + (1 - one c) : Nat) := by
  have hc := one_flag_le_one c
  rw [decimalDifference, ← one_eq_toNat, show bcdValue a = dec a from rfl, show bcdValue m = dec m from rfl]
  omega

end Sys2Proof.Machine
end

section
/-! PROOF. Arithmetic and logic as rows of the rules' tables, in the terms of the statements
(43_arith_logic.md). -/

namespace Sys2Proof.Machine

open Sys2Proof.Claims

/-- What a row leaves whose operation ends with `PC <- next`. -/
theorem RunsAs.effect {α : Type} {length : α → Nat} {op : State → α → State} {f : Form α}
    (h : RunsAs length op f) {s t : State} (ht : op s f.operand = t.advance (length f.operand)) :
    encode f.instr = f.bytes ∧ exec f.instr s = .next (t.advance f.bytes.length) := by
  refine ⟨h.encode_eq, ?_⟩
  rw [h.exec_eq, ht, h.length_eq]

/-! ADC and SBC (R190 to R194). -/

/-- A sum or difference `r` in A, N and Z from it, and the other two flags it gives. -/
def State.withSum (s : State) (r : Byte) (c v : Bool) : State :=
  { s with a := r, p := { nz s.p r with c := c, v := v } }

theorem State.adc_of_binary {s : State} (hd : s.p.d = false) (o : Source) :
    s.adc o = (s.addBinary (s.load8 o)).advance o.length := by
  rw [State.adc, hd, if_neg Bool.false_ne_true]

theorem State.adc_of_decimal {s : State} (hd : s.p.d = true) (o : Source) :
    s.adc o = (s.addDecimal (s.load8 o)).advance o.length := by
  rw [State.adc, if_pos hd]

theorem State.sbc_of_binary {s : State} (hd : s.p.d = false) (o : Source) :
    s.sbc o = (s.addBinary (s.load8 o ^^^ 0xFF#8)).advance o.length := by
  rw [State.sbc, hd, if_neg Bool.false_ne_true]

theorem State.sbc_of_decimal {s : State} (hd : s.p.d = true) (o : Source) :
    s.sbc o = (s.subDecimal (s.load8 o)).advance o.length := by
  rw [State.sbc, if_pos hd]

theorem State.addBinary_eq (s : State) (m : Byte) :
    s.addBinary m = s.withSum (binaryResult s.a m s.p.c) (binaryCarry s.a m s.p.c)
      (binaryOverflow s.a m s.p.c) := by
  rw [State.addBinary, State.setNZ_eq_setP_nz]
  rfl

theorem State.addDecimal_of_isBcd {s : State} {m : Byte} (ha : isBcd s.a) (hm : isBcd m) :
    s.addDecimal m = (s.withSum (bcd (decimalSum s.a m s.p.c % 100)) (decide (100 ≤ decimalSum s.a m s.p.c))
      (Config.freeBit s.drawn)).draw := by
  rw [State.addDecimal, (validBcd_iff _).2 ha, (validBcd_iff _).2 hm, Bool.and_true, if_pos rfl]
  simp only [State.setNZ_eq_setP_nz, toBcd_eq_bcd]
  rfl

/-- With the digits of the operand and the borrow together as `taken`. -/
theorem State.subDecimal_of_isBcd {s : State} {m : Byte} {taken : Nat} (ha : isBcd s.a) (hm : isBcd m)
    (ht : taken = dec m + (1 - one s.p.c)) :
    s.subDecimal m = (s.withSum (bcd (if taken ≤ dec s.a then dec s.a - taken else dec s.a + 100 - taken))
      (decide (taken ≤ dec s.a)) (Config.freeBit s.drawn)).draw := by
  have hsign : 0 ≤ decimalDifference s.a m s.p.c ↔ taken ≤ dec s.a := by
    rw [decimalDifference_eq, ← ht]; omega
  have hplain : (decimalDifference s.a m s.p.c).toNat = dec s.a - taken := by
    rw [decimalDifference_eq, ← ht]; omega
  have hwrap : (decimalDifference s.a m s.p.c + 100).toNat = dec s.a + 100 - taken := by
    rw [decimalDifference_eq, ← ht]; omega
  rw [State.subDecimal, (validBcd_iff _).2 ha, (validBcd_iff _).2 hm, Bool.and_true, if_pos rfl]
  simp only [State.setNZ_eq_setP_nz, toBcd_eq_bcd, hsign, hplain, hwrap, ← apply_ite bcd]
  rfl

theorem not_validBcd_both {a m : Byte} (h : ¬ (isBcd a ∧ isBcd m)) :
    (validBcd a && validBcd m) = false := by
  rw [Bool.eq_false_iff, ne_eq, Bool.and_eq_true, validBcd_iff, validBcd_iff]
  exact h

theorem State.addDecimal_of_not_isBcd {s : State} {m : Byte} (h : ¬ (isBcd s.a ∧ isBcd m)) :
    s.addDecimal m = s.anyDecimal := by
  rw [State.addDecimal, not_validBcd_both h, if_neg Bool.false_ne_true]

theorem State.subDecimal_of_not_isBcd {s : State} {m : Byte} (h : ¬ (isBcd s.a ∧ isBcd m)) :
    s.subDecimal m = s.anyDecimal := by
  rw [State.subDecimal, not_validBcd_both h, if_neg Bool.false_ne_true]

/-- Five free values are drawn, one for each open field. -/
theorem State.anyDecimal_eq (s : State) :
    s.anyDecimal = { s with
      a := Config.freeByte s.drawn
      p := { s.p with
        n := Config.freeBit (s.drawn + 1), v := Config.freeBit (s.drawn + 2)
        z := Config.freeBit (s.drawn + 3), c := Config.freeBit (s.drawn + 4) }
      drawn := s.drawn + 5 } := rfl

/-! AND, ORA, EOR, NEG and the register increments and decrements (R195 to R197, R203, R206 to R211). -/

/-- What the operations do that put their result into A and set N and Z from it. -/
theorem State.setNZ_setA (s : State) (r : Byte) :
    (s.setA r).setNZ r = { s with a := r, p := nz s.p r } := by
  rw [State.setNZ_eq_setP_nz]
  rfl

theorem State.andA_eq (s : State) (o : Source) :
    s.andA o = State.advance { s with a := s.a &&& s.load8 o, p := nz s.p (s.a &&& s.load8 o) } o.length := by
  rw [State.andA, State.setNZ_setA]

theorem State.oraA_eq (s : State) (o : Source) :
    s.oraA o = State.advance { s with a := s.a ||| s.load8 o, p := nz s.p (s.a ||| s.load8 o) } o.length := by
  rw [State.oraA, State.setNZ_setA]

theorem State.eorA_eq (s : State) (o : Source) :
    s.eorA o = State.advance { s with a := s.a ^^^ s.load8 o, p := nz s.p (s.a ^^^ s.load8 o) } o.length := by
  rw [State.eorA, State.setNZ_setA]

theorem State.negate_eq (s : State) {r : Byte} (hr : r = BitVec.ofNat 8 ((256 - s.a.toNat) % 256)) :
    s.negate = State.advance { s with a := r, p := nz s.p r } 1 := by
  rw [hr, ← zero_sub_eq_ofNat, State.negate, State.setNZ_setA]

theorem State.incrementReg_eq (s : State) (r : Reg) {v : Byte} (hv : v = BitVec.ofNat 8 ((s.reg r).toNat + 1)) :
    s.incrementReg r = ((s.setReg r v).setP (nz s.p v)).setPc (s.pc + 1#16) := by
  rw [hv, ← add_one_eq_ofNat]
  exact s.advance_setNZ_setReg r _ 1

theorem State.decrementReg_eq (s : State) (r : Reg) {v : Byte}
    (hv : v = BitVec.ofNat 8 ((s.reg r).toNat + 255)) :
    s.decrementReg r = ((s.setReg r v).setP (nz s.p v)).setPc (s.pc + 1#16) := by
  rw [hv, ← sub_one_eq_ofNat]
  exact s.advance_setNZ_setReg r _ 1

/-! Compares and BIT (R198 to R202). -/

theorem State.compare_eq_toNat (s : State) (r m : Byte) :
    s.compare r m = { s with p := { s.p with
      n := decide (128 ≤ (256 + r.toNat - m.toNat) % 256)
      z := decide (r.toNat = m.toNat)
      c := decide (m.toNat ≤ r.toNat) } } := by
  rw [State.compare_eq, getLsbD_seven_sub]
  simp only [BitVec.toNat_eq]

theorem State.bitTest_eq (s : State) (o : Source) :
    s.bitTest o = State.advance { s with p := { s.p with
      n := if s.bitWritesNV o then (s.load8 o).getLsbD 7 else s.p.n
      v := if s.bitWritesNV o then (s.load8 o).getLsbD 6 else s.p.v
      z := decide ((s.a &&& s.load8 o).toNat = 0) } } o.length := by
  have hz : decide (s.a &&& s.load8 o = 0#8) = decide ((s.a &&& s.load8 o).toNat = 0) := by
    rw [decide_eq_decide, BitVec.toNat_eq]; rfl
  rw [State.bitTest, hz]
  cases s.bitWritesNV o <;> rfl

/-! INC and DEC (R204, R205). -/

/-- A read-modify-write stores its result, sets flags and goes on. -/
theorem modifies_of_exec {i : Instr} {bytes : List Byte} {s : State} {r : Byte} {p : Status} {o : Place}
    (h : exec i s = .next (((s.store8 o r).setP p).advance bytes.length)) : modifies i bytes s r p o := by
  cases o with
  | acc => exact h
  | mem m => exact ⟨_, h, s.storesOne_writeByte (s.ea m) r, rfl⟩

theorem State.setNZ_store8 (s : State) (o : Place) (r : Byte) :
    (s.store8 o r).setNZ r = (s.store8 o r).setP (nz s.p r) := by
  rw [State.setNZ_eq_setP_nz]
  cases o <;> rfl

theorem modified_eq_loadPlace (s : State) (o : Place) : modified s o = s.loadPlace o := by
  cases o <;> rfl

theorem State.increment_eq (s : State) (o : Place) {r : Byte}
    (hr : r = BitVec.ofNat 8 ((modified s o).toNat + 1)) :
    s.increment o = ((s.store8 o r).setP (nz s.p r)).advance o.length := by
  rw [hr, modified_eq_loadPlace, ← add_one_eq_ofNat, ← State.setNZ_store8]
  rfl

theorem State.decrement_eq (s : State) (o : Place) {r : Byte}
    (hr : r = BitVec.ofNat 8 ((modified s o).toNat + 255)) :
    s.decrement o = ((s.store8 o r).setP (nz s.p r)).advance o.length := by
  rw [hr, modified_eq_loadPlace, ← sub_one_eq_ofNat, ← State.setNZ_store8]
  rfl

/-! The rows of the tables. -/

section
variable {nn : Byte} {nnnn : Word}

section
variable {f : Form Source}

theorem runsAs_of_mem_adcForms (hf : f ∈ adcForms nn nnnn) : RunsAs Source.length State.adc f := by
  fin_cases hf <;> exact ⟨rfl, rfl, fun _ => rfl⟩

theorem runsAs_of_mem_sbcForms (hf : f ∈ sbcForms nn nnnn) : RunsAs Source.length State.sbc f := by
  fin_cases hf <;> exact ⟨rfl, rfl, fun _ => rfl⟩

theorem runsAs_of_mem_andForms (hf : f ∈ andForms nn nnnn) : RunsAs Source.length State.andA f := by
  fin_cases hf <;> exact ⟨rfl, rfl, fun _ => rfl⟩

theorem runsAs_of_mem_oraForms (hf : f ∈ oraForms nn nnnn) : RunsAs Source.length State.oraA f := by
  fin_cases hf <;> exact ⟨rfl, rfl, fun _ => rfl⟩

theorem runsAs_of_mem_eorForms (hf : f ∈ eorForms nn nnnn) : RunsAs Source.length State.eorA f := by
  fin_cases hf <;> exact ⟨rfl, rfl, fun _ => rfl⟩

theorem runsAs_of_mem_cmpForms (hf : f ∈ cmpForms nn nnnn) :
    RunsAs Source.length (·.compareReg .a ·) f := by
  fin_cases hf <;> exact ⟨rfl, rfl, fun _ => rfl⟩

theorem runsAs_of_mem_cpxForms (hf : f ∈ cpxForms nn nnnn) :
    RunsAs Source.length (·.compareReg .x ·) f := by
  fin_cases hf <;> exact ⟨rfl, rfl, fun _ => rfl⟩

theorem runsAs_of_mem_cpyForms (hf : f ∈ cpyForms nn nnnn) :
    RunsAs Source.length (·.compareReg .y ·) f := by
  fin_cases hf <;> exact ⟨rfl, rfl, fun _ => rfl⟩

theorem runsAs_of_mem_cpzForms (hf : f ∈ cpzForms nn nnnn) :
    RunsAs Source.length (·.compareReg .z ·) f := by
  fin_cases hf <;> exact ⟨rfl, rfl, fun _ => rfl⟩

theorem runsAs_of_mem_bitForms (hf : f ∈ bitForms nn nnnn) : RunsAs Source.length State.bitTest f := by
  fin_cases hf <;> exact ⟨rfl, rfl, fun _ => rfl⟩

/-- The one immediate among the rows of BIT is `#$nn`, and it alone depends on the parameter (R202). -/
theorem bitWritesNV_of_mem_bitForms (s : State) (hf : f ∈ bitForms nn nnnn) :
    s.bitWritesNV f.operand = (decide (f.operand ≠ .imm8 nn) || s.cfg.bitImmWritesNV) := by
  fin_cases hf <;> simp [State.bitWritesNV]

end

section
variable {f : Form Place}

theorem runsAs_of_mem_incForms (hf : f ∈ incForms nn nnnn) : RunsAs Place.length State.increment f := by
  fin_cases hf <;> exact ⟨rfl, rfl, fun _ => rfl⟩

theorem runsAs_of_mem_decForms (hf : f ∈ decForms nn nnnn) : RunsAs Place.length State.decrement f := by
  fin_cases hf <;> exact ⟨rfl, rfl, fun _ => rfl⟩

end
end

end Sys2Proof.Machine
end

section
/-! PROOF. The statements on arithmetic and logic (43_arith_logic.md). -/

namespace Sys2Proof.Proofs

open Sys2Proof.Machine Sys2Proof.Claims

/-- Settles O34: both are one sum, SBC with the complement of its operand, and the carry, the borrow and the
signed overflow of that sum are those of the statement. -/
theorem binaryAdcSbcEffect : Obligations.BinaryAdcSbcEffect := by
  intro nn nnnn s hd
  refine ⟨fun f hf => ?adc, fun f hf => ?sbc⟩
  case adc =>
    have hadc := (runsAs_of_mem_adcForms hf).effect (State.adc_of_binary hd f.operand)
    rw [State.addBinary_eq, binaryOverflow_eq_decide_toInt, binaryResult, binaryCarry, binarySum_eq] at hadc
    exact hadc
  case sbc =>
    have hsbc := (runsAs_of_mem_sbcForms hf).effect (State.sbc_of_binary hd f.operand)
    rw [State.addBinary_eq, binaryOverflow_xor_0xFF, binaryCarry_xor_0xFF, binaryResult_xor_0xFF] at hsbc
    exact hsbc

/-- Settles O35: with valid digits a decimal sum or difference is put together from its number; V and the count
are the one free value drawn. -/
theorem decimalAdcSbcEffect : Obligations.DecimalAdcSbcEffect := by
  intro nn nnnn s hd ha
  refine ⟨fun f hf hm => ?adc, fun f hf hm => ?sbc⟩
  case adc =>
    have hadc := (runsAs_of_mem_adcForms hf).effect (State.adc_of_decimal hd f.operand)
    rw [State.addDecimal_of_isBcd ha hm, decimalSum_eq] at hadc
    exact ⟨_, _, hadc.2⟩
  case sbc =>
    have hsbc := (runsAs_of_mem_sbcForms hf).effect (State.sbc_of_decimal hd f.operand)
    rw [State.subDecimal_of_isBcd ha hm rfl] at hsbc
    exact ⟨_, _, hsbc.2⟩

/-- Settles O36: both leave the same five free values. -/
theorem invalidBcdStillCompletes : Obligations.InvalidBcdStillCompletes := by
  intro nn nnnn s hd f hf hinvalid
  have hexec : exec f.instr s = .next (s.anyDecimal.advance f.bytes.length) := by
    obtain hadc | hsbc := List.mem_append.1 hf
    · rw [((runsAs_of_mem_adcForms hadc).effect (State.adc_of_decimal hd f.operand)).2,
        State.addDecimal_of_not_isBcd hinvalid]
    · rw [((runsAs_of_mem_sbcForms hsbc).effect (State.sbc_of_decimal hd f.operand)).2,
        State.subDecimal_of_not_isBcd hinvalid]
  rw [State.anyDecimal_eq] at hexec
  exact ⟨_, _, _, _, _, _, hexec⟩

/-- Settles O38: every row is the one comparison, with its register. -/
theorem compareEffect : Obligations.CompareEffect := by
  intro nn nnnn s g hg f hf
  have hrow : ∃ r, s.reg r = g.2 ∧ RunsAs Source.length (·.compareReg r ·) f := by
    fin_cases hg
    · exact ⟨.a, rfl, runsAs_of_mem_cmpForms hf⟩
    · exact ⟨.x, rfl, runsAs_of_mem_cpxForms hf⟩
    · exact ⟨.y, rfl, runsAs_of_mem_cpyForms hf⟩
    · exact ⟨.z, rfl, runsAs_of_mem_cpzForms hf⟩
  obtain ⟨r, hr, hrow⟩ := hrow
  have heffect := hrow.effect (s := s) rfl
  rw [State.compare_eq_toNat, hr] at heffect
  exact heffect

/-- Settles O39: every row is the one test, and which row writes N and V is a fact about its operand. -/
theorem bitEffect : Obligations.BitEffect := by
  intro nn nnnn s f hf m writesNV
  have heffect := (runsAs_of_mem_bitForms hf).effect (s.bitTest_eq f.operand)
  rw [bitWritesNV_of_mem_bitForms s hf] at heffect
  exact heffect

/-- Settles O41: every row replaces its operand by one up or one down. -/
theorem incDecEffect : Obligations.IncDecEffect := by
  intro nn nnnn s
  refine ⟨fun f hf => ?inc, fun f hf => ?dec⟩
  case inc =>
    obtain ⟨hencode, hexec⟩ := (runsAs_of_mem_incForms hf).effect (s.increment_eq f.operand rfl)
    exact ⟨hencode, modifies_of_exec hexec⟩
  case dec =>
    obtain ⟨hencode, hexec⟩ := (runsAs_of_mem_decForms hf).effect (s.decrement_eq f.operand rfl)
    exact ⟨hencode, modifies_of_exec hexec⟩

/-- Settles O37: every row puts its bitwise result into A. -/
theorem logicEffect : Obligations.LogicEffect := by
  intro nn nnnn s
  refine ⟨fun f hf => ?and, fun f hf => ?ora, fun f hf => ?eor⟩
  case and => exact (runsAs_of_mem_andForms hf).effect (s.andA_eq f.operand)
  case ora => exact (runsAs_of_mem_oraForms hf).effect (s.oraA_eq f.operand)
  case eor => exact (runsAs_of_mem_eorForms hf).effect (s.eorA_eq f.operand)

/-- Settles O40: NEG puts its difference from zero into A. -/
theorem negEffect : Obligations.NegEffect := by
  intro s r
  exact ⟨rfl, congrArg Host.Outcome.next (s.negate_eq rfl)⟩

/-- Settles O42: every row replaces its register by one up or one down. -/
theorem incDecRegisterEffect : Obligations.IncDecRegisterEffect := by
  intro s up down
  simp only [List.forall_mem_cons]
  refine ⟨⟨rfl, ?inx⟩, ⟨rfl, ?iny⟩, ⟨rfl, ?inz⟩, ⟨rfl, ?dex⟩, ⟨rfl, ?dey⟩, ⟨rfl, ?dez⟩,
    List.forall_mem_nil _⟩
  case inx => exact congrArg Host.Outcome.next (s.incrementReg_eq .x rfl)
  case iny => exact congrArg Host.Outcome.next (s.incrementReg_eq .y rfl)
  case inz => exact congrArg Host.Outcome.next (s.incrementReg_eq .z rfl)
  case dex => exact congrArg Host.Outcome.next (s.decrementReg_eq .x rfl)
  case dey => exact congrArg Host.Outcome.next (s.decrementReg_eq .y rfl)
  case dez => exact congrArg Host.Outcome.next (s.decrementReg_eq .z rfl)

end Sys2Proof.Proofs
end

section
/-! PROOF. Shifts by one position as numbers (R220), for every width, and the operations of 44_shift_rotate.md
in the terms of the statements. -/

namespace Sys2Proof.Machine

open Sys2Proof.Claims

/-! The bit shifted out. -/

/-- The top bit is the quotient by its weight. -/
theorem getLsbD_top_eq_decide_div {n : Nat} (v : BitVec (n + 1)) :
    v.getLsbD n = decide (v.toNat / 2 ^ n = 1) := by
  have hquot : v.toNat / 2 ^ n < 2 := Nat.div_lt_of_lt_mul v.isLt
  rw [BitVec.getLsbD, Nat.testBit_eq_decide_div_mod_eq, Nat.mod_eq_of_lt hquot]

theorem getLsbD_zero_eq_decide_mod {n : Nat} (v : BitVec n) : v.getLsbD 0 = decide (v.toNat % 2 = 1) :=
  Nat.testBit_zero v.toNat

/-! The result. -/

theorem shiftLeft_one_eq_ofNat {n : Nat} (v : BitVec n) : v <<< 1 = BitVec.ofNat n (2 * v.toNat) := by
  apply BitVec.eq_of_toNat_eq
  rw [BitVec.toNat_shiftLeft, BitVec.toNat_ofNat, Nat.shiftLeft_eq, pow_one, Nat.mul_comm]

theorem ushiftRight_one_eq_ofNat {n : Nat} (v : BitVec n) : v >>> 1 = BitVec.ofNat n (v.toNat / 2) := by
  rw [← Nat.pow_one 2, ← Nat.shiftRight_eq_div_pow, ← BitVec.toNat_ushiftRight, BitVec.ofNat_toNat,
    BitVec.setWidth_eq]

/-- Shifting left leaves the lowest place free, so joining a bit there is adding it. -/
theorem shiftLeft_one_or_eq_ofNat {n : Nat} (v : BitVec n) (b : Bool) :
    v <<< 1 ||| BitVec.ofNat n (one b) = BitVec.ofNat n (2 * v.toNat + one b) := by
  have hb : one b < 2 ^ 1 := Nat.lt_succ_of_le (one_flag_le_one b)
  rw [shiftLeft_one_eq_ofNat, ← BitVec.ofNat_or, ← Nat.pow_one 2, Nat.two_pow_add_eq_or_of_lt hb]

/-- Shifting right leaves the top place free, so joining a bit there is adding its weight. -/
theorem or_ushiftRight_one_eq_ofNat {n : Nat} (b : Bool) (v : BitVec (n + 1)) :
    BitVec.ofNat (n + 1) (one b) <<< n ||| v >>> 1 =
      BitVec.ofNat (n + 1) (2 ^ n * one b + v.toNat / 2) := by
  have hweight : BitVec.twoPow (n + 1) n = BitVec.ofNat (n + 1) (2 ^ n) :=
    BitVec.eq_of_toNat_eq (BitVec.toNat_twoPow _ _)
  have hv : v.toNat / 2 < 2 ^ n := Nat.div_lt_of_lt_mul (Nat.pow_succ' ▸ v.isLt)
  rw [ushiftRight_one_eq_ofNat, Nat.two_pow_add_eq_or_of_lt hv, BitVec.ofNat_or, BitVec.ofNat_mul,
    BitVec.shiftLeft_eq_mul_twoPow, BitVec.mul_comm, hweight]

theorem flagByte_eq_ofNat (b : Bool) : flagByte b = BitVec.ofNat 8 (one b) := by
  cases b <;> rfl

theorem zext16_flagByte (b : Bool) : zext16 (flagByte b) = BitVec.ofNat 16 (one b) := by
  cases b <;> rfl

/-- The sign kept by ASR (R225) is the top bit joined at its own place. -/
theorem and_0x80_eq_shiftLeft (v : Byte) : v &&& 0x80#8 = BitVec.ofNat 8 (one (v.getLsbD 7)) <<< 7 := by
  rw [show 0x80#8 = BitVec.twoPow 8 7 from rfl, BitVec.and_twoPow]
  cases v.getLsbD 7 <;> rfl

theorem one_getLsbD_seven (v : Byte) : one (v.getLsbD 7) = v.toNat / 128 := by
  have hv := v.isLt
  simp only [getLsbD_seven_eq_decide, one, decide_eq_true_eq]
  split_ifs <;> omega

/-- ASR halves the signed value, rounding down; the remainder is the bit shifted out. -/
theorem toInt_eq_two_mul_asr (v : Byte) :
    v.toInt = 2 * (BitVec.ofNat 8 (128 * (v.toNat / 128) + v.toNat / 2)).toInt +
      one (decide (v.toNat % 2 = 1)) := by
  have hv := v.isLt
  simp only [BitVec.toInt_eq_toNat_cond, BitVec.toNat_ofNat, one, decide_eq_true_eq]
  split_ifs <;> omega

theorem getLsbD_seven_asr (v : Byte) :
    (BitVec.ofNat 8 (128 * (v.toNat / 128) + v.toNat / 2)).getLsbD 7 = v.getLsbD 7 := by
  have hv := v.isLt
  rw [getLsbD_seven_eq_decide, getLsbD_seven_eq_decide, BitVec.toNat_ofNat, decide_eq_decide]
  omega

/-! The 8-bit operations (R221 to R225), the operand taken as a number. -/

/-- `shift8` is a read-modify-write that sets N, Z and C. -/
theorem State.shift8_eq (s : State) (o : Place) (r : Byte) (out : Bool) :
    s.shift8 o r out = ((s.store8 o r).setP { nz s.p r with c := out }).advance o.length := by
  rw [State.shift8, State.setNZ_store8]
  rfl

theorem State.asl_eq (s : State) (o : Place) :
    s.asl o = s.shift8 o (BitVec.ofNat 8 (2 * (modified s o).toNat))
      (decide ((modified s o).toNat / 128 = 1)) := by
  rw [State.asl, modified_eq_loadPlace, shiftLeft_one_eq_ofNat, getLsbD_top_eq_decide_div (n := 7)]
  rfl

theorem State.lsr_eq (s : State) (o : Place) :
    s.lsr o = s.shift8 o (BitVec.ofNat 8 ((modified s o).toNat / 2))
      (decide ((modified s o).toNat % 2 = 1)) := by
  rw [State.lsr, modified_eq_loadPlace, ushiftRight_one_eq_ofNat, getLsbD_zero_eq_decide_mod]

theorem State.rol_eq (s : State) (o : Place) :
    s.rol o = s.shift8 o (BitVec.ofNat 8 (2 * (modified s o).toNat + one s.p.c))
      (decide ((modified s o).toNat / 128 = 1)) := by
  rw [State.rol, modified_eq_loadPlace, flagByte_eq_ofNat, shiftLeft_one_or_eq_ofNat,
    getLsbD_top_eq_decide_div (n := 7)]
  rfl

theorem State.ror_eq (s : State) (o : Place) :
    s.ror o = s.shift8 o (BitVec.ofNat 8 (128 * one s.p.c + (modified s o).toNat / 2))
      (decide ((modified s o).toNat % 2 = 1)) := by
  rw [State.ror, modified_eq_loadPlace, flagByte_eq_ofNat, or_ushiftRight_one_eq_ofNat (n := 7),
    getLsbD_zero_eq_decide_mod]
  rfl

theorem State.asr_eq (s : State) (o : Place) :
    s.asr o = s.shift8 o (BitVec.ofNat 8 (128 * ((modified s o).toNat / 128) + (modified s o).toNat / 2))
      (decide ((modified s o).toNat % 2 = 1)) := by
  rw [State.asr, modified_eq_loadPlace, and_0x80_eq_shiftLeft, or_ushiftRight_one_eq_ofNat (n := 7),
    one_getLsbD_seven, getLsbD_zero_eq_decide_mod]
  rfl

/-- What a row of an 8-bit shift leaves, of its result and the bit shifted out. -/
theorem RunsAs.shift_effect {op : State → Place → State} {f : Form Place} (h : RunsAs Place.length op f)
    {s : State} {r : Byte} {out : Bool} (hop : op s f.operand = s.shift8 f.operand r out) :
    encode f.instr = f.bytes ∧ modifies f.instr f.bytes s r { nz s.p r with c := out } f.operand := by
  obtain ⟨hencode, hexec⟩ := h.effect (hop.trans (s.shift8_eq f.operand r out))
  exact ⟨hencode, modifies_of_exec hexec⟩

section
variable {nn : Byte} {nnnn : Word} {f : Form Place}

theorem runsAs_of_mem_aslForms (hf : f ∈ aslForms nn nnnn) : RunsAs Place.length State.asl f := by
  fin_cases hf <;> exact ⟨rfl, rfl, fun _ => rfl⟩

theorem runsAs_of_mem_lsrForms (hf : f ∈ lsrForms nn nnnn) : RunsAs Place.length State.lsr f := by
  fin_cases hf <;> exact ⟨rfl, rfl, fun _ => rfl⟩

theorem runsAs_of_mem_rolForms (hf : f ∈ rolForms nn nnnn) : RunsAs Place.length State.rol f := by
  fin_cases hf <;> exact ⟨rfl, rfl, fun _ => rfl⟩

theorem runsAs_of_mem_rorForms (hf : f ∈ rorForms nn nnnn) : RunsAs Place.length State.ror f := by
  fin_cases hf <;> exact ⟨rfl, rfl, fun _ => rfl⟩

theorem runsAs_of_mem_asrForms (hf : f ∈ asrForms nn nnnn) : RunsAs Place.length State.asr f := by
  fin_cases hf <;> exact ⟨rfl, rfl, fun _ => rfl⟩

end

/-! The 16-bit operations (R226, R227), the word taken as a number. -/

/-- `shift16` is what INW and DEW do with their result, and C. -/
theorem State.shift16_eq_replaceWord (s : State) (nnnn r : Word) (out : Bool) :
    s.shift16 nnnn r out = (s.replaceWord (.abs nnnn) r).setC out := rfl

/-- What a 16-bit shift leaves, its result taken as a number. -/
theorem State.shift16_effect (s : State) (nnnn : Word) {r : Word} {k : Nat} (hr : r.toNat = k) (out : Bool) :
    storesTwo s (s.shift16 nnnn r out) nnnn (lowByte k) (nnnn + 1#16) (highByte k) ∧
    (s.shift16 nnnn r out).setMem s.mem = { s with
      p := { nz16 s.p (BitVec.ofNat 16 k) with c := out }
      pc := s.pc + 3#16 } := by
  rw [← hr, State.shift16_eq_replaceWord]
  exact ⟨s.storesTwo_replaceWord (.abs nnnn) r,
    congrArg (·.setC out) (s.setMem_replaceWord (.abs nnnn) r)⟩

theorem State.asw_eq (s : State) (nnnn : Word) :
    s.asw nnnn = s.shift16 nnnn (BitVec.ofNat 16 (2 * wordAt s nnnn (nnnn + 1#16)))
      (decide (wordAt s nnnn (nnnn + 1#16) / 32768 = 1)) := by
  rw [State.asw, shiftLeft_one_eq_ofNat, getLsbD_top_eq_decide_div (n := 15), State.toNat_readWord]
  rfl

theorem State.row_eq (s : State) (nnnn : Word) :
    s.row nnnn = s.shift16 nnnn (BitVec.ofNat 16 (32768 * one s.p.c + wordAt s nnnn (nnnn + 1#16) / 2))
      (decide (wordAt s nnnn (nnnn + 1#16) % 2 = 1)) := by
  rw [State.row, zext16_flagByte, or_ushiftRight_one_eq_ofNat (n := 15), getLsbD_zero_eq_decide_mod,
    State.toNat_readWord]
  rfl

/-- The number that ROW puts together is a word. -/
theorem toNat_row_result (s : State) (nnnn : Word) :
    (BitVec.ofNat 16 (32768 * one s.p.c + wordAt s nnnn (nnnn + 1#16) / 2)).toNat =
      32768 * one s.p.c + wordAt s nnnn (nnnn + 1#16) / 2 := by
  have hw := (s.readWord nnnn).isLt
  have hc := one_flag_le_one s.p.c
  rw [State.toNat_readWord] at hw
  rw [BitVec.toNat_ofNat]
  omega

end Sys2Proof.Machine
end

section
/-! PROOF. The statements on shifts and rotates (44_shift_rotate.md). -/

namespace Sys2Proof.Proofs

open Sys2Proof.Machine Sys2Proof.Claims

/-- Settles O44: every row is the shift of its table, whose result and bit shifted out are those numbers. -/
theorem shiftEffect : Obligations.ShiftEffect := by
  intro nn nnnn s
  simp only [List.forall_mem_cons]
  refine ⟨fun f hf => ?asl, fun f hf => ?lsr, fun f hf => ?rol, fun f hf => ?ror, fun f hf => ?asr,
    List.forall_mem_nil _⟩
  case asl => exact (runsAs_of_mem_aslForms hf).shift_effect (s.asl_eq f.operand)
  case lsr => exact (runsAs_of_mem_lsrForms hf).shift_effect (s.lsr_eq f.operand)
  case rol => exact (runsAs_of_mem_rolForms hf).shift_effect (s.rol_eq f.operand)
  case ror => exact (runsAs_of_mem_rorForms hf).shift_effect (s.ror_eq f.operand)
  case asr => exact (runsAs_of_mem_asrForms hf).shift_effect (s.asr_eq f.operand)

/-- Settles O45: the number that ASR puts into A is half the operand as a signed number, with its sign. -/
theorem asrIsSignedHalving : Obligations.AsrIsSignedHalving := by
  intro s
  have hasr := (s.asr_eq .acc).trans (s.shift8_eq .acc _ _)
  exact ⟨_, congrArg Host.Outcome.next hasr, toInt_eq_two_mul_asr s.a, getLsbD_seven_asr s.a⟩

/-- Settles O46: both are the one 16-bit shift, and the number stored is that of the statement. -/
theorem wordShiftEffect : Obligations.WordShiftEffect := by
  intro nnnn s w
  have hasw : (BitVec.ofNat 16 (2 * w)).toNat = 2 * w % 65536 := BitVec.toNat_ofNat _ _
  simp only [List.forall_mem_cons]
  refine ⟨⟨rfl, _, congrArg Host.Outcome.next (s.asw_eq nnnn), ?asw⟩,
    ⟨rfl, _, congrArg Host.Outcome.next (s.row_eq nnnn), ?row⟩, List.forall_mem_nil _⟩
  case asw => exact s.shift16_effect nnnn hasw _
  case row => exact s.shift16_effect nnnn (toNat_row_result s nnnn) _

end Sys2Proof.Proofs
end

section
/-! PROOF. Bits of a byte, displacements as numbers, and the operations of 45_bit_ops.md in the terms of the
statements. -/

namespace Sys2Proof.Machine

open Sys2Proof.Claims

/-! One bit of a byte. -/

theorem xor_0xFF_eq_not (v : Byte) : v ^^^ 0xFF#8 = ~~~v := BitVec.xor_allOnes

theorem getLsbD_one_shiftLeft {i j : Nat} (hj : j < 8) : (1#8 <<< i).getLsbD j = decide (j = i) := by
  rw [← BitVec.twoPow_eq, BitVec.getLsbD_twoPow]
  simp only [← Bool.decide_and, decide_eq_decide]
  omega

/-- The mask of RMBi clears bit `i` (R242). -/
theorem getLsbD_and_mask (m : Byte) (i : Nat) {j : Nat} (hj : j < 8) :
    (m &&& (1#8 <<< i ^^^ 0xFF#8)).getLsbD j = if j = i then false else m.getLsbD j := by
  rw [xor_0xFF_eq_not, BitVec.getLsbD_and, BitVec.getLsbD_not, getLsbD_one_shiftLeft hj]
  by_cases hji : j = i <;> simp [hj, hji]

/-- The mask of SMBi sets bit `i` (R243). -/
theorem getLsbD_or_mask (m : Byte) (i : Nat) {j : Nat} (hj : j < 8) :
    (m ||| 1#8 <<< i).getLsbD j = if j = i then true else m.getLsbD j := by
  rw [BitVec.getLsbD_or, getLsbD_one_shiftLeft hj]
  by_cases hji : j = i <;> simp [hji]

/-! TRB and TSB (R240, R241). -/

/-- The flags that TRB and TSB leave, of the operand `m` and the byte stored `r`. -/
def State.testedFlags (s : State) (m r : Byte) : Status :=
  if s.cfg.trbTsbFlags = .source then { nz s.p r with v := r.getLsbD 6 }
  else { s.p with z := decide ((s.a &&& m).toNat = 0) }

theorem State.setBitFlags_eq (s : State) (m r : Byte) : s.setBitFlags m r = s.setP (s.testedFlags m r) := by
  unfold State.setBitFlags State.testedFlags
  split
  next hsource => simp [hsource, nz, BitVec.toNat_eq]
  next hwdc => simp [hwdc, BitVec.toNat_eq]

/-- Both are a read-modify-write of memory with these flags. -/
theorem State.setBitFlags_writeByte (s : State) (o : MemOperand) (m r : Byte) :
    (s.writeByte (s.ea o) r).setBitFlags m r = (s.store8 (.mem o) r).setP (s.testedFlags m r) :=
  State.setBitFlags_eq _ m r

theorem State.testResetBits_eq (s : State) (o : MemOperand) {m r : Byte} (hm : m = s.readByte (s.ea o))
    (hr : r = m &&& ~~~s.a) :
    s.testResetBits o = ((s.store8 (.mem o) r).setP (s.testedFlags m r)).advance o.length := by
  subst hm hr
  rw [State.testResetBits, xor_0xFF_eq_not, State.setBitFlags_writeByte]

theorem State.testSetBits_eq (s : State) (o : MemOperand) {m r : Byte} (hm : m = s.readByte (s.ea o))
    (hr : r = m ||| s.a) :
    s.testSetBits o = ((s.store8 (.mem o) r).setP (s.testedFlags m r)).advance o.length := by
  subst hm hr
  rw [State.testSetBits, State.setBitFlags_writeByte]

/-- What a row of a read-modify-write of memory leaves, of its result and flags. -/
theorem RunsAs.modify_effect {op : State → MemOperand → State} {f : Form MemOperand}
    (h : RunsAs MemOperand.length op f) {s : State} {r : Byte} {p : Status}
    (hop : op s f.operand = ((s.store8 (.mem f.operand) r).setP p).advance f.operand.length) :
    encode f.instr = f.bytes ∧ modifies f.instr f.bytes s r p (.mem f.operand) := by
  obtain ⟨hencode, hexec⟩ := h.effect hop
  exact ⟨hencode, modifies_of_exec hexec⟩

section
variable {nn : Byte} {nnnn : Word} {f : Form MemOperand}

theorem runsAs_of_mem_trbForms (hf : f ∈ trbForms nn nnnn) :
    RunsAs MemOperand.length State.testResetBits f := by
  fin_cases hf <;> exact ⟨rfl, rfl, fun _ => rfl⟩

theorem runsAs_of_mem_tsbForms (hf : f ∈ tsbForms nn nnnn) :
    RunsAs MemOperand.length State.testSetBits f := by
  fin_cases hf <;> exact ⟨rfl, rfl, fun _ => rfl⟩

end

/-! RMBi and SMBi (R242, R243). -/

/-- In `t` bit `i` of the base-page byte is `b`, and nothing else has changed but the PC, which is past the
two bytes of the instruction. -/
def State.putsBit (s t : State) (nn : Byte) (i : Nat) (b : Bool) : Prop :=
  (∀ j, j < 8 → (t.readByte (s.bpAddr nn)).getLsbD j =
    if j = i then b else (s.readByte (s.bpAddr nn)).getLsbD j) ∧
  (∀ a, a ≠ s.bpAddr nn → t.readByte a = s.readByte a) ∧
  t.setMem s.mem = { s with pc := s.pc + 2#16 }

/-- A store to the base-page byte puts a bit if the byte stored has that bit and the others of the old byte. -/
theorem State.putsBit_writeByte (s : State) (nn : Byte) {v : Byte} {i : Nat} {b : Bool}
    (hv : ∀ j, j < 8 → v.getLsbD j = if j = i then b else (s.readByte (s.bpAddr nn)).getLsbD j) :
    s.putsBit ((s.writeByte (s.bpAddr nn) v).advance 2) nn i b := by
  have hread : storesOne s ((s.writeByte (s.bpAddr nn) v).advance 2) (s.bpAddr nn) v :=
    s.storesOne_writeByte (s.bpAddr nn) v
  refine ⟨fun j hj => ?_, fun a ha => ?_, rfl⟩
  · rw [hread, if_pos rfl, hv j hj]
  · rw [hread, if_neg ha]

theorem State.putsBit_resetBit (s : State) (i : Nat) (nn : Byte) : s.putsBit (s.resetBit i nn) nn i false :=
  s.putsBit_writeByte nn fun _ => getLsbD_and_mask (s.readByte (s.bpAddr nn)) i

theorem State.putsBit_setBit (s : State) (i : Nat) (nn : Byte) : s.putsBit (s.setBit i nn) nn i true :=
  s.putsBit_writeByte nn fun _ => getLsbD_or_mask (s.readByte (s.bpAddr nn)) i

/-! BBRi and BBSi (R244, R245): the PC as a number. -/

theorem State.next_eq_ofNat (s : State) (len : Nat) :
    s.pc + BitVec.ofNat 16 len = BitVec.ofNat 16 (s.pc.toNat + len) := by
  rw [BitVec.ofNat_add, BitVec.ofNat_toNat, BitVec.setWidth_eq]

/-- An 8-bit displacement is signed, and its target is taken modulo 65536 (R125, R127). -/
theorem State.rel8Target_eq_ofInt (s : State) (len : Nat) (dd : Byte) :
    s.rel8Target len dd = BitVec.ofInt 16 (s.pc.toNat + len + dd.toInt) := by
  rw [State.rel8Target, State.next_eq_ofNat, BitVec.ofInt_add, sext16, BitVec.signExtend, ← Nat.cast_add,
    BitVec.ofInt_natCast]

theorem State.branchBit_eq (s : State) (i : Nat) (b : Bool) (nn dd : Byte) :
    s.branchBit i b nn dd = { s with
      pc := if (s.readByte (s.bpAddr nn)).getLsbD i = b
        then BitVec.ofInt 16 (s.pc.toNat + 3 + dd.toInt) else BitVec.ofNat 16 (s.pc.toNat + 3) } := by
  unfold State.branchBit
  split
  · exact congrArg s.setPc (s.rel8Target_eq_ofInt 3 dd)
  · exact congrArg s.setPc (s.next_eq_ofNat 3)

/-! The rows of the lists: the number of an entry is the bit number (R82). -/

section
variable {nn dd : Byte} {r : Instr × Nat}

theorem exec_of_mem_rmbs (hr : r ∈ (rmbs nn).zipIdx) (s : State) :
    exec r.1 s = .next (s.resetBit r.2 nn) := by
  fin_cases hr <;> rfl

theorem exec_of_mem_smbs (hr : r ∈ (smbs nn).zipIdx) (s : State) :
    exec r.1 s = .next (s.setBit r.2 nn) := by
  fin_cases hr <;> rfl

theorem exec_of_mem_bbrs (hr : r ∈ (bbrs nn dd).zipIdx) (s : State) :
    exec r.1 s = .next (s.branchBit r.2 false nn dd) := by
  fin_cases hr <;> rfl

theorem exec_of_mem_bbss (hr : r ∈ (bbss nn dd).zipIdx) (s : State) :
    exec r.1 s = .next (s.branchBit r.2 true nn dd) := by
  fin_cases hr <;> rfl

end

end Sys2Proof.Machine
end

section
/-! PROOF. The statements on bit operations (45_bit_ops.md). -/

namespace Sys2Proof.Proofs

open Sys2Proof.Machine Sys2Proof.Claims

/-- Settles O47: every row is the one read-modify-write, with the byte stored of its table. -/
theorem trbTsbEffect : Obligations.TrbTsbEffect := by
  intro nn nnnn s
  simp only [List.forall_mem_cons]
  refine ⟨fun f hf => ?trb, fun f hf => ?tsb, List.forall_mem_nil _⟩
  case trb => exact (runsAs_of_mem_trbForms hf).modify_effect (s.testResetBits_eq f.operand rfl rfl)
  case tsb => exact (runsAs_of_mem_tsbForms hf).modify_effect (s.testSetBits_eq f.operand rfl rfl)

/-- Settles O48: every row stores the base-page byte with its one bit put. -/
theorem rmbSmbEffect : Obligations.RmbSmbEffect := by
  intro nn s
  obtain ⟨hrmb, hsmb, -, -⟩ := bitNumberIsInTheOpcode nn 0#8
  simp only [Nat.add_comm 0x80, Nat.add_assoc] at hsmb
  simp only [List.forall_mem_cons]
  refine ⟨fun r hr => ?rmb, fun r hr => ?smb, List.forall_mem_nil _⟩
  case rmb => exact ⟨hrmb r hr, _, exec_of_mem_rmbs hr s, s.putsBit_resetBit r.2 nn⟩
  case smb => exact ⟨hsmb r hr, _, exec_of_mem_smbs hr s, s.putsBit_setBit r.2 nn⟩

/-- Settles O49: every row is the one branch, on its bit and the value of its list. -/
theorem bbrBbsEffect : Obligations.BbrBbsEffect := by
  intro nn dd s
  obtain ⟨-, -, hbbr, hbbs⟩ := bitNumberIsInTheOpcode nn dd
  simp only [Nat.add_comm 0x80, Nat.add_assoc] at hbbs
  simp only [List.forall_mem_cons]
  refine ⟨fun r hr => ?bbr, fun r hr => ?bbs, List.forall_mem_nil _⟩
  case bbr => exact ⟨hbbr r hr, by rw [exec_of_mem_bbrs hr, State.branchBit_eq]⟩
  case bbs => exact ⟨hbbs r hr, by rw [exec_of_mem_bbss hr, State.branchBit_eq]⟩

end Sys2Proof.Proofs
end

section
/-! PROOF. Branches, jumps, calls and returns in the terms of the statements (46_control_flow.md). -/

namespace Sys2Proof.Machine

open Sys2Proof.Claims

/-! Branches (R125, R126, R260 to R269). -/

theorem rel16Offset_eq_ofNat (base : Rel16Base) :
    rel16Offset base = BitVec.ofNat 16 (if base = .two then 2 else 3) := by
  cases base <;> rfl

/-- The target of a 16-bit displacement is taken modulo 65536 (R126). -/
theorem State.rel16Target_eq_ofNat (s : State) (dddd : Word) :
    s.rel16Target dddd =
      BitVec.ofNat 16 (s.pc.toNat + (if s.cfg.rel16Base = .two then 2 else 3) + dddd.toNat) := by
  rw [State.rel16Target, rel16Offset_eq_ofNat, State.next_eq_ofNat, BitVec.ofNat_add _ dddd.toNat,
    BitVec.ofNat_toNat, BitVec.setWidth_eq]

theorem State.branch8_eq (s : State) (cond : Bool) (dd : Byte) :
    s.branch8 cond dd = { s with
      pc := if cond then BitVec.ofInt 16 (s.pc.toNat + 2 + dd.toInt)
        else BitVec.ofNat 16 (s.pc.toNat + 2) } := by
  cases cond with
  | true => exact congrArg s.setPc (s.rel8Target_eq_ofInt 2 dd)
  | false => exact congrArg s.setPc (s.next_eq_ofNat 2)

theorem State.branch16_eq (s : State) (cond : Bool) (dddd : Word) :
    s.branch16 cond dddd = { s with
      pc := if cond
        then BitVec.ofNat 16 (s.pc.toNat + (if s.cfg.rel16Base = .two then 2 else 3) + dddd.toNat)
        else BitVec.ofNat 16 (s.pc.toNat + 3) } := by
  cases cond with
  | true => exact congrArg s.setPc (s.rel16Target_eq_ofNat dddd)
  | false => exact congrArg s.setPc (s.next_eq_ofNat 3)

section
variable {s : State} {dd : Byte} {dddd : Word} {r : Instr × Byte × Instr × Byte × Bool}

/-- The 16-bit form has the opcode of the 8-bit form plus 3. -/
theorem encode_of_mem_branches (hr : r ∈ branches s dd dddd) :
    encode r.1 = [r.2.1, dd] ∧ encode r.2.2.1 = [r.2.1 + 3#8, loByte dddd, hiByte dddd] := by
  fin_cases hr <;> exact ⟨rfl, rfl⟩

/-- Both forms of a row branch on the row's condition. -/
theorem exec_of_mem_branches (hr : r ∈ branches s dd dddd) :
    exec r.1 s = .next (s.branch8 r.2.2.2.2 dd) ∧ exec r.2.2.1 s = .next (s.branch16 r.2.2.2.2 dddd) := by
  fin_cases hr <;> exact ⟨rfl, rfl⟩

end

/-! Words read as numbers, and the targets of jumps (R118, R128, R129). -/

theorem State.joinBytes_readByte_eq_ofNat (s : State) (lo hi : Word) :
    joinBytes (s.readByte hi) (s.readByte lo) = BitVec.ofNat 16 (wordAt s lo hi) := by
  rw [← State.toNat_joinBytes_readByte, BitVec.ofNat_toNat, BitVec.setWidth_eq]

theorem State.readWord_eq_ofNat (s : State) (a : Word) :
    s.readWord a = BitVec.ofNat 16 (wordAt s a (a + 1#16)) :=
  s.joinBytes_readByte_eq_ofNat a (a + 1#16)

theorem State.jumpTarget_abs (s : State) (nnnn : Word) :
    s.jumpTarget (.abs nnnn) = BitVec.ofNat 16 nnnn.toNat := by
  rw [BitVec.ofNat_toNat, BitVec.setWidth_eq]
  rfl

theorem State.jumpTarget_absind (s : State) (nnnn : Word) :
    s.jumpTarget (.absind nnnn) = BitVec.ofNat 16 (wordAt s nnnn (nnnn + 1#16)) :=
  s.readWord_eq_ofNat nnnn

/-- The pointer's address is indexed modulo 65536 (R129). -/
theorem State.jumpTarget_absxind (s : State) (nnnn : Word) {p : Word}
    (hp : p = BitVec.ofNat 16 (nnnn.toNat + s.x.toNat)) :
    s.jumpTarget (.absxind nnnn) = BitVec.ofNat 16 (wordAt s p (p + 1#16)) := by
  have hindexed : nnnn + zext16 s.x = p := by
    rw [hp]
    apply BitVec.eq_of_toNat_eq
    rw [toNat_add_zext16, BitVec.toNat_ofNat]
  rw [← hindexed]
  exact s.readWord_eq_ofNat (nnnn + zext16 s.x)

/-! Stack pointers after pushes and pulls, modulo 256 (R25). -/

theorem sp_sub_two_add_one (p : Byte) : p - 2#8 + 1#8 = p - 1#8 := by bv_omega
theorem sp_sub_two_add_two (p : Byte) : p - 2#8 + 2#8 = p := BitVec.sub_add_cancel p 2#8
theorem sp_sub_three_add_one (p : Byte) : p - 3#8 + 1#8 = p - 2#8 := by bv_omega
theorem sp_sub_three_add_two (p : Byte) : p - 3#8 + 2#8 = p - 1#8 := by bv_omega
theorem sp_sub_three_add_three (p : Byte) : p - 3#8 + 3#8 = p := BitVec.sub_add_cancel p 3#8

theorem stackByte_inj {p q : Byte} : stackByte p = stackByte q ↔ p = q := stackAddr_inj

/-- The stack lies in page `$01` (R25). -/
theorem ne_stackByte {a : Word} (h : hiByte a ≠ 0x01#8) (p : Byte) : a ≠ stackByte p := by
  rintro rfl
  exact h (hiByte_joinBytes 0x01#8 p)

/-! Calls and RTS (R270, R272 to R274). -/

theorem State.called_callSubroutine (s : State) (target : Word) :
    called s (s.callSubroutine target) target := by
  refine ⟨s.readByte_pushWord (s.pc + 2#16), ?_⟩
  rw [State.callSubroutine, State.pushWord_flat]
  rfl

theorem State.returnFromSubroutine_flat (s : State) :
    s.returnFromSubroutine = { s with
      sp := s.sp + 2#8
      pc := joinBytes (s.readByte (stackByte (s.sp + 2#8))) (s.readByte (stackByte (s.sp + 1#8))) + 1#16 } := by
  rw [State.returnFromSubroutine, State.pulledWord_eq, State.afterPullWord_eq, sp_add_one_one]
  rfl

/-- RTS from what a call leaves: the bytes pulled are those pushed, so it goes to the byte after the call's
three, and undoes all but the bytes on the stack. -/
theorem returnFromSubroutine_of_called {s t : State} {target : Word} (h : called s t target) :
    t.returnFromSubroutine.setMem s.mem = { s with pc := s.pc + 3#16 } := by
  obtain ⟨hstack, hrest⟩ := h
  have hsp : t.sp = s.sp - 2#8 := congrArg State.sp hrest
  have hne : stackByte (s.sp - 1#8) ≠ stackByte s.sp := fun e => (sp_three_ne s.sp).1 (stackByte_inj.1 e).symm
  have hlo : t.readByte (stackByte (t.sp + 1#8)) = loByte (s.pc + 2#16) := by
    rw [hsp, sp_sub_two_add_one, hstack, if_neg hne, if_pos rfl]
  have hhi : t.readByte (stackByte (t.sp + 2#8)) = hiByte (s.pc + 2#16) := by
    rw [hsp, sp_sub_two_add_two, hstack, if_pos rfl]
  have hreturn : s.pc + 2#16 + 1#16 = s.pc + 3#16 := BitVec.add_assoc s.pc 2#16 1#16
  rw [State.returnFromSubroutine_flat, hlo, hhi, joinBytes_hi_lo, hreturn, hsp, sp_sub_two_add_two]
  exact congrArg (fun u => (u.setSp s.sp).setPc (s.pc + 3#16)) hrest

/-- JSR in its three forms and BSR are calls, each of a target of its own. -/
theorem exists_called {nnnn : Word} {i : Instr}
    (hi : i ∈ [.jsrAbs nnnn, .jsrAbsInd nnnn, .jsrAbsxInd nnnn, .bsr nnnn]) (s : State) :
    ∃ t target, exec i s = .next t ∧ called s t target := by
  have hexec : ∃ target, exec i s = .next (s.callSubroutine target) := by
    fin_cases hi <;> exact ⟨_, rfl⟩
  obtain ⟨target, hexec⟩ := hexec
  exact ⟨_, target, hexec, s.called_callSubroutine target⟩

/-! Entries and RTI (R276, R277, R318, R319, R321). -/

/-- The three pushes of an entry write no other byte. -/
theorem State.readByte_pushWord_push_of_ne (s : State) (w : Word) (v : Byte) {a : Word}
    (h0 : a ≠ stackByte s.sp) (h1 : a ≠ stackByte (s.sp - 1#8)) (h2 : a ≠ stackByte (s.sp - 2#8)) :
    ((s.pushWord w).push v).readByte a = s.readByte a := by
  rw [State.readByte_pushWord_push]
  exact (if_neg h0).trans ((if_neg h1).trans (if_neg h2))

/-- An entry through a vector outside the stack reads it as it was before the pushes. -/
theorem State.entered_takeException (s : State) (ret : Word) (b : Bool) {vector : Word}
    (hlo : hiByte vector ≠ 0x01#8) (hhi : hiByte (vector + 1#16) ≠ 0x01#8) :
    entered s (s.takeException ret b vector) ret b vector := by
  refine ⟨s.readByte_takeException ret b vector, ?_⟩
  have hkept : ∀ a, hiByte a ≠ 0x01#8 → ((s.pushWord ret).push (s.p.pack b)).readByte a = s.readByte a :=
    fun a ha => s.readByte_pushWord_push_of_ne ret (s.p.pack b) (ne_stackByte ha _) (ne_stackByte ha _)
      (ne_stackByte ha _)
  have hvector : ((s.pushWord ret).push (s.p.pack b)).readWord vector =
      BitVec.ofNat 16 (wordAt s vector (vector + 1#16)) := by
    rw [State.readWord_eq_ofNat, wordAt, hkept vector hlo, hkept (vector + 1#16) hhi, wordAt]
  rw [State.takeException_flat, hvector]
  rfl

/-- The three bytes of an entry, read back. -/
theorem State.readByte_takeException_stack (s : State) (ret : Word) (b : Bool) (vector : Word) :
    (s.takeException ret b vector).readByte (stackByte s.sp) = hiByte ret ∧
    (s.takeException ret b vector).readByte (stackByte (s.sp - 1#8)) = loByte ret ∧
    (s.takeException ret b vector).readByte (stackByte (s.sp - 2#8)) = s.p.pack b := by
  obtain ⟨h01, h02, h12⟩ := sp_three_ne s.sp
  simp [State.readByte_takeException, stackByte_eq_joinBytes, stackAddr_inj, h01.symm, h02.symm, h12.symm]

theorem State.returnFromException_flat (s : State) :
    s.returnFromException = { s with
      sp := s.sp + 3#8
      p := Status.unpack (s.readByte (stackByte (s.sp + 1#8)))
      pc := joinBytes (s.readByte (stackByte (s.sp + 3#8))) (s.readByte (stackByte (s.sp + 2#8))) } := by
  rw [State.returnFromException_eq, sp_add_one_one (s.sp + 1#8), BitVec.add_assoc s.sp 1#8 2#8, sp_add_one_one]
  rfl

theorem State.readByte_returnFromException (s : State) (a : Word) :
    s.returnFromException.readByte a = s.readByte a := rfl

/-- RTI from an entry pulls the flags and the return address as they were pushed. -/
theorem State.returnFromException_takeException (s : State) (ret : Word) (b : Bool) (vector : Word) :
    (s.takeException ret b vector).returnFromException.setMem s.mem = { s with pc := ret } := by
  obtain ⟨hhi, hlo, hflags⟩ := s.readByte_takeException_stack ret b vector
  rw [State.returnFromException_flat, State.takeException_sp, sp_sub_three_add_one, sp_sub_three_add_two,
    sp_sub_three_add_three, hhi, hlo, hflags, joinBytes_hi_lo, Status.unpack_pack]
  rw [State.takeException_flat]
  rfl

end Sys2Proof.Machine
end

section
/-! PROOF. The statements on control transfer (46_control_flow.md), and on RTI after an entry (R321). -/

namespace Sys2Proof.Proofs

open Sys2Proof.Machine Sys2Proof.Claims

/-- Settles O17: the bytes pulled are those pushed, and RTI writes no memory. -/
theorem rtiUndoesAnEntry : Obligations.RtiUndoesAnEntry := by
  intro s ret b vector
  refine ⟨_, rfl, s.returnFromException_takeException ret b vector, fun a h0 h1 h2 => ?_⟩
  rw [State.readByte_returnFromException, State.readByte_takeException, ← State.readByte_pushWord_push,
    s.readByte_pushWord_push_of_ne ret (s.p.pack b) h0 h1 h2]

/-- Settles O50: both forms of every row are the one branch of their width, on the row's condition. -/
theorem branchEffect : Obligations.BranchEffect := by
  intro dd dddd s r hr
  obtain ⟨hencode8, hencode16⟩ := encode_of_mem_branches hr
  obtain ⟨hexec8, hexec16⟩ := exec_of_mem_branches hr
  rw [State.branch8_eq] at hexec8
  rw [State.branch16_eq] at hexec16
  exact ⟨hencode8, hencode16, hexec8, hexec16⟩

/-- Settles O51: BSR is the one call, with the target of a 16-bit displacement. -/
theorem bsrEffect : Obligations.BsrEffect := fun dddd s =>
  ⟨rfl, _, rfl, s.rel16Target_eq_ofNat dddd ▸ s.called_callSubroutine (s.rel16Target dddd)⟩

/-- Settles O52: every row puts its target into the PC. -/
theorem jmpEffect : Obligations.JmpEffect := by
  intro nnnn s p
  simp only [List.forall_mem_cons]
  refine ⟨⟨rfl, ?abs⟩, ⟨rfl, ?absind⟩, ⟨rfl, ?absxind⟩, List.forall_mem_nil _⟩
  case abs => exact congrArg (Host.Outcome.next <| s.setPc ·) (s.jumpTarget_abs nnnn)
  case absind => exact congrArg (Host.Outcome.next <| s.setPc ·) (s.jumpTarget_absind nnnn)
  case absxind => exact congrArg (Host.Outcome.next <| s.setPc ·) (s.jumpTarget_absxind nnnn rfl)

/-- Settles O53: every row is the one call, with its target, which is a number of the state before it. -/
theorem jsrEffect : Obligations.JsrEffect := by
  intro nnnn s p
  simp only [List.forall_mem_cons]
  refine ⟨⟨rfl, _, rfl, ?abs⟩, ⟨rfl, _, rfl, ?absind⟩, ⟨rfl, _, rfl, ?absxind⟩, List.forall_mem_nil _⟩
  case abs => exact s.jumpTarget_abs nnnn ▸ s.called_callSubroutine _
  case absind => exact s.jumpTarget_absind nnnn ▸ s.called_callSubroutine _
  case absxind => exact s.jumpTarget_absxind nnnn rfl ▸ s.called_callSubroutine _

/-- Settles O54: the word pulled and the one added are taken as a number modulo 65536. -/
theorem rtsEffect : Obligations.RtsEffect := by
  intro s
  refine ⟨rfl, congrArg Host.Outcome.next ?_⟩
  rw [State.returnFromSubroutine_flat, State.joinBytes_readByte_eq_ofNat, BitVec.ofNat_add]

/-- Settles O55: all four are the one call, which RTS undoes up to the PC. -/
theorem rtsReturnsFromAnyCall : Obligations.RtsReturnsFromAnyCall := by
  intro nnnn s i hi
  obtain ⟨t, target, hexec, hcalled⟩ := exists_called hi s
  have hreturn := returnFromSubroutine_of_called hcalled
  exact ⟨t, _, hexec, rfl, congrArg State.pc hreturn, (congrArg State.sp hreturn :),
    (congrArg State.p hreturn :)⟩

/-- Settles O56: the flags and the word pulled, the word as a number. -/
theorem rtiEffect : Obligations.RtiEffect := by
  intro s
  refine ⟨rfl, congrArg Host.Outcome.next ?_⟩
  rw [State.returnFromException_flat, State.joinBytes_readByte_eq_ofNat]

/-- Settles O57: BRK is an entry, and its vector lies outside the stack. -/
theorem brkEffect : Obligations.BrkEffect := fun s =>
  ⟨rfl, _, rfl, s.entered_takeException (s.pc + 2#16) true (by decide) (by decide)⟩

/-- Settles O59: in each of the four the encoder and `exec` compute to the bytes and to the refusal. -/
theorem unknownInstructionsAreRefused : Obligations.UnknownInstructionsAreRefused := fun _ _ =>
  ⟨rfl, rfl, rfl, rfl, rfl, rfl, rfl, rfl⟩

end Sys2Proof.Proofs
end

section
/-! PROOF. The flag instructions, and what P.I decides at a boundary: an IRQ is taken, or has no effect
(R312, R323). -/

namespace Sys2Proof.Machine

open Sys2Proof.Claims

/-- What a flag instruction writes: the flags, and the PC one byte on (R290 to R297). -/
theorem State.setP_advance_one (s : State) (p : Status) :
    (s.setP p).advance 1 = { s with p := p, pc := s.pc + 1#16 } := rfl

theorem exec_cli (s : State) :
    exec .cli s = .next { s with p := { s.p with i := false }, pc := s.pc + 1#16 } :=
  congrArg Host.Outcome.next (s.setP_advance_one { s.p with i := false })

theorem exec_sei (s : State) :
    exec .sei s = .next { s with p := { s.p with i := true }, pc := s.pc + 1#16 } :=
  congrArg Host.Outcome.next (s.setP_advance_one { s.p with i := true })

section
variable {s : State} {e : Inputs} {rest : List Inputs}

theorem State.inputsNow_of_inputs_eq_cons (h : s.inputs = e :: rest) : s.inputsNow = e := by
  rw [State.inputsNow, h, List.headD_cons]

theorem State.fetchInstr_eq_cli (h : s.readByte s.pc = 0x58#8) : s.fetchInstr = .cli := by
  rw [State.fetchInstr, h]; rfl

theorem State.fetchInstr_eq_sei (h : s.readByte s.pc = 0x78#8) : s.fetchInstr = .sei := by
  rw [State.fetchInstr, h]; rfl

/-- A boundary with nothing driven and no NMI pending uses up its entry and runs the fetched instruction. -/
theorem step_eq_exec_of_idle (hstop : s.cfg.stopAddress ≠ some s.pc) (hpending : s.nmiPending = false)
    (hinputs : s.inputs = Inputs.idle :: rest) :
    step s = exec s.fetchInstr { s with inputs := rest } := by
  have hnow := State.inputsNow_of_inputs_eq_cons hinputs
  have hedge : s.inputsNow.nmiEdge = false := by rw [hnow]; rfl
  rw [step_eq_exec_fetchInstr hstop (by rw [hnow]; rfl) hpending hedge (.inl (by rw [hnow]; rfl)),
    State.sample_eq_of_no_nmi hpending hedge, hinputs, List.tail_cons]

/-- With no RESET and no NMI, an asserted IRQ line is taken when P.I is clear (R312, R317). -/
theorem step_eq_takeIrq (hstop : s.cfg.stopAddress ≠ some s.pc) (hreset : s.inputsNow.reset = false)
    (hpending : s.nmiPending = false) (hedge : s.inputsNow.nmiEdge = false)
    (hirq : s.inputsNow.irqLine = true) (hi : s.p.i = false) :
    step s = .next ({ s with inputs := s.inputs.tail } : State).takeIrq := by
  have htakes : s.takesIrq = true := by rw [State.takesIrq, hirq, hi]; rfl
  rw [← State.sample_eq_of_no_nmi hpending hedge]
  simp [step, boundaryStep, State.atStop, hstop, hreset, hpending, hedge, htakes]

/-- With P.I set no IRQ is taken, whatever the line (R312). -/
theorem State.takesIrq_eq_false_of_masked (hi : s.p.i = true) : s.takesIrq = false := by
  rw [State.takesIrq, hi, Bool.not_true, Bool.and_false]

/-- Sampling does not keep the level of the IRQ line. -/
theorem State.sample_eq_sample_of_irq_released (hinputs : s.inputs = e :: rest) :
    s.sample = ({ s with inputs := { e with irqLine := false } :: rest } : State).sample := by
  rw [State.sample, State.inputsNow_of_inputs_eq_cons hinputs, hinputs]; rfl

/-- With P.I set a step is the same with the IRQ line released: the line is read only where an IRQ would be
taken (R312). -/
theorem step_eq_step_of_masked (hinputs : s.inputs = e :: rest) (hi : s.p.i = true) :
    step s = step { s with inputs := { e with irqLine := false } :: rest } := by
  rw [step, boundaryStep, State.takesIrq_eq_false_of_masked hi, State.inputsNow_of_inputs_eq_cons hinputs,
    State.sample_eq_sample_of_irq_released hinputs, step, boundaryStep, State.takesIrq_eq_false_of_masked]
  · rfl
  · exact hi

end

/-- The entry of an IRQ leaves what R318 says, with the address of the next instruction pushed. -/
theorem State.entered_takeIrq (s : State) : entered s s.takeIrq s.pc false irqVector :=
  s.entered_takeException s.pc false (by decide) (by decide)

/-- What an entry leaves does not depend on the PC before it, but for the return address. -/
theorem entered_setPc_iff {s t : State} {w ret vector : Word} {b : Bool} :
    entered (s.setPc w) t ret b vector ↔ entered s t ret b vector := Iff.rfl

end Sys2Proof.Machine
end

section
/-! PROOF. The statements on the flag instructions (47_flags_system.md), and on the boundary after CLI and
SEI (R323). -/

namespace Sys2Proof.Proofs

open Sys2Proof.Machine Sys2Proof.Claims

/-- Settles O58: every row puts its flags into P and advances by one byte; NOP puts back those there are. -/
theorem flagInstructionEffect : Obligations.FlagInstructionEffect := by
  intro s
  simp only [List.forall_mem_cons]
  refine ⟨⟨rfl, ?clc⟩, ⟨rfl, ?sec⟩, ⟨rfl, ?cld⟩, ⟨rfl, ?sed⟩, ⟨rfl, ?cli⟩, ⟨rfl, ?sei⟩, ⟨rfl, ?clv⟩,
    ⟨rfl, ?nop⟩, List.forall_mem_nil _⟩
  case cli => exact exec_cli s
  case sei => exact exec_sei s
  case clc | sec | cld | sed | clv | nop => exact congrArg Host.Outcome.next (s.setP_advance_one _)

/-- Settles O18: the first step runs CLI or SEI, and the P.I it leaves is the one that the next boundary
samples. -/
theorem cliAndSeiActAtTheNextBoundary : Obligations.CliAndSeiActAtTheNextBoundary := by
  intro s e rest hinputs hpending hstop hreset hedge hirq
  have hnostop : ∀ pc : Word, s.cfg.stopAddress ≠ some pc := by simp [hstop]
  have hfirst := step_eq_exec_of_idle (hnostop s.pc) hpending hinputs
  refine ⟨fun hop => ?cli, fun hop => ?sei⟩
  case cli =>
    rw [State.fetchInstr_eq_cli hop, exec_cli] at hfirst
    have hentry := step_eq_takeIrq
      (s := { s with inputs := e :: rest, p := { s.p with i := false }, pc := s.pc + 1#16 })
      (hnostop _) hreset hpending hedge hirq rfl
    exact ⟨_, _, hfirst, hentry, entered_setPc_iff.1 (State.entered_takeIrq _)⟩
  case sei =>
    rw [State.fetchInstr_eq_sei hop, exec_sei] at hfirst
    exact ⟨_, hfirst, rfl, rfl, step_eq_step_of_masked rfl rfl⟩

end Sys2Proof.Proofs
end

section
/-! PROOF. The boundary: the stop address and each event as an equation of the step (R310, R314, R317, R366). -/

namespace Sys2Proof.Machine

open Sys2Proof.Claims

/-! The end of the run (R366). -/

section
variable {s : State}

theorem State.not_atStop (hstop : s.cfg.stopAddress ≠ some s.pc) : ¬ s.atStop = true :=
  mt of_decide_eq_true hstop

theorem step_eq_fault_of_atStop (hstop : s.cfg.stopAddress = some s.pc) :
    step s = .fault .stopAddressReached :=
  if_pos (decide_eq_true hstop)

/-- Away from the stop address a step is an event, which is taken, or an instruction, and neither faults. -/
theorem step_ne_fault (hstop : s.cfg.stopAddress ≠ some s.pc) (f : Fault) : step s ≠ .fault f := by
  rw [step, boundaryStep, if_neg (State.not_atStop hstop)]
  split
  case isTrue _reset => exact nofun
  split
  case isTrue _nmi => exact nofun
  split
  case isTrue _irq => exact nofun
  case isFalse _noEvent => exact exec_ne_fault _ _ _

/-! RESET and NMI, in their priority (R317). -/

/-- RESET is taken before anything else at the boundary (R314). -/
theorem step_eq_takeReset (hstop : s.cfg.stopAddress ≠ some s.pc) (hreset : s.inputsNow.reset = true) :
    step s = .next s.sample.takeReset := by
  rw [step, boundaryStep, if_neg (State.not_atStop hstop), if_pos hreset]

/-- With no RESET, an NMI pending or an edge at this boundary is taken; the IRQ line and P.I are not read
(R313). -/
theorem step_eq_takeNmi (hstop : s.cfg.stopAddress ≠ some s.pc) (hreset : s.inputsNow.reset = false)
    (hnmi : s.nmiPending = true ∨ s.inputsNow.nmiEdge = true) :
    step s = .next s.sample.takeNmi := by
  have hlatch : s.sample.nmiPending = true := by rwa [State.sample_nmiPending, Bool.or_eq_true]
  rw [step, boundaryStep, if_neg (State.not_atStop hstop), hreset, if_neg Bool.false_ne_true,
    if_pos hlatch]

end

/-! What the two leave. -/

/-- Clearing the latch undoes what sampling set in it. -/
theorem State.setNmiPending_sample (s : State) (b : Bool) :
    s.sample.setNmiPending b = { s with inputs := s.inputs.tail, nmiPending := b } := rfl

/-- The reset sequence starts at the word in `$FFFC` and `$FFFD` (R315, R350). -/
theorem State.takeReset_pc (s : State) :
    s.takeReset.pc = BitVec.ofNat 16 (wordAt s 0xFFFC#16 0xFFFD#16) :=
  s.readWord_eq_ofNat resetVector

/-- The entry of an NMI leaves what R318 says, from the state with the latch cleared. -/
theorem State.entered_takeNmi (s : State) : entered (s.setNmiPending false) s.takeNmi s.pc false nmiVector :=
  (s.setNmiPending false).entered_takeException s.pc false (by decide) (by decide)

end Sys2Proof.Machine
end

section
/-! PROOF. The statements on the events at a boundary and on the end of a run (60_exceptions.md). -/

namespace Sys2Proof.Proofs

open Sys2Proof.Machine Sys2Proof.Claims

/-- Settles O12: the step is the reset sequence, which writes no memory and reads its vector as it was before
the sampling. -/
theorem resetEventRunsTheResetSequence : Obligations.ResetEventRunsTheResetSequence := fun s hstop hreset =>
  ⟨s.sample.takeReset, step_eq_takeReset hstop hreset, rfl, rfl, rfl, rfl, rfl, s.sample.takeReset_pc, rfl, rfl,
    rfl⟩

/-- Settles O13: the step is the NMI's entry, from the sampled state with the latch cleared. -/
theorem nmiEntry : Obligations.NmiEntry := by
  intro s hstop hreset hnmi
  rw [← State.setNmiPending_sample]
  exact ⟨s.sample.takeNmi, step_eq_takeNmi hstop hreset hnmi, s.sample.entered_takeNmi⟩

/-- Settles O14: the step is the IRQ's entry, from the state with this boundary's inputs used up. -/
theorem irqEntry : Obligations.IrqEntry := fun _ hstop hreset hpending hedge hirq hi =>
  ⟨_, step_eq_takeIrq hstop hreset hpending hedge hirq hi, State.entered_takeIrq _⟩

/-- Settles O15: sampling keeps nothing of the line, and with P.I set nothing else reads it. -/
theorem maskedIrqHasNoEffect : Obligations.MaskedIrqHasNoEffect := fun _ _ _ => step_eq_step_of_masked

/-- Settles O19: the stop address is the only branch of the boundary that can fault. -/
theorem runEndsAtTheStopAddress : Obligations.RunEndsAtTheStopAddress := fun _ =>
  ⟨step_eq_fault_of_atStop, fun f hfault => by_contra fun hstop => step_ne_fault hstop f hfault⟩

end Sys2Proof.Proofs
end
